-- ==== Sys2Proof/Word.lean ====
section
/-! DEFINITION. The words of the two lanes: one byte, a two-byte field, a three-byte field, and one
pixel (three channel values, red, green and blue, each 0..255; 00_scope.md, Conventions). -/

namespace Sys2Proof

/-- One byte of a lane packet, one channel of a colour, one index of the index store. -/
abbrev Byte := BitVec 8

/-- A two-byte field of a layout table (Chapter 11), most significant byte first on the lanes. -/
abbrev Half := BitVec 16

/-- A three-byte field of a layout table: a store base. -/
abbrev Wide := BitVec 24

/-- A pixel, or a colour without an opacity (the background, R55). -/
structure Pixel where
  red : Byte
  green : Byte
  blue : Byte
deriving DecidableEq, Repr

end Sys2Proof
end

