-- ==== Sys2Proof/Config.lean ====
section
/-! DEFINITION. What the part fixes (sizes of its memories and queues, each with its rule) and the
FREE VALUES: constants without a body for what the spec leaves open. Nothing can be proved about the
value of a free value. -/

namespace Sys2Proof.Config

/-- FREE VALUE (R81; log entry 4): the index that entry `address` holds after the `powerOns`-th power-on, until the
start-up clear or the store writer writes it. "That value may be any index in 0..255, and it may differ
from entry to entry and from one power-on to the next." -/
opaque powerUpEntry (powerOns address : Nat) : Byte

/-- FREE VALUE (R159; log entry 5): which block's offer is taken next when offers of several blocks come together.
The argument counts the choices taken so far; the value is used modulo the number of blocks that still
have an offer. -/
opaque offerPick (choice : Nat) : Nat

/-- FREE VALUE (R141, Table 11-5; log entry 16): what the column and row of a REPLY header's cursor field hold when
its kind is 2 EXHAUSTED. The table gives the four bytes no value there. The argument is the rest of the packet's
content. -/
opaque exhaustedPlace (content : List Byte) : Half × Half

/-- Entries of the index store (R80). -/
def storeEntries : Nat := 262144
/-- The line budget in store columns (R26). -/
def lineBudget : Nat := 4096
/-- Allowance of an active line (R89). -/
def activeAllowance : Nat := 1024
/-- Allowance of a blanking line (R89). -/
def blankAllowance : Nat := 4096
/-- Packets the outbox holds (R152). -/
def outboxSize : Nat := 32
/-- Packets the relay buffer holds (R160). -/
def relaySize : Nat := 8
/-- Entries of the command queue (R137). -/
def queueSize : Nat := 16
/-- Waiting jobs the job queue holds (R86). -/
def jobQueueSize : Nat := 4
/-- Entries of the reply cache (R142). -/
def cacheSize : Nat := 8
/-- Maximum of the 16-bit counters (R146). -/
def counterMax : Nat := 65535
/-- Maximum of the credit counters and of the lost count (R157, R161, R162). -/
def creditMax : Nat := 255
/-- Identity (R147). -/
def vendorCode : Nat := 0x45
/-- Identity (R147). -/
def partCode : Nat := 6208
/-- Identity (R147). -/
def revision : Nat := 3

end Sys2Proof.Config
end

