-- ==== Sys2Proof/Syntax.lean ====
section
/-! DEFINITION. The steps of the IJH6208 (`Instr`, one constructor per row of spec/opcode_table.json),
the parameter blocks that COMMAND packets carry (`Request`, Table 11-6), and the packets of the down
lane (`DownPacket`, Table 11-1). Fields read out of a packet keep the width the layout gives them. -/

namespace Sys2Proof

/-- An entry of the palette (Table 4-1), as PALETTE-LOAD and QUERY-PALETTE carry it (Table 11-8). The
entry opacity is 0..16 in every palette; a PALETTE-LOAD may carry any byte there (R58 check 2). -/
structure PaletteEntry where
  red : Byte
  green : Byte
  blue : Byte
  opacity : Byte
deriving DecidableEq, Repr

/-- The parameter block of PANE-SET (Table 11-7). -/
structure PaneSetParams where
  pane : Byte
  screenX : Half
  screenY : Half
  base : Wide
  stride : Half
  width : Half
  height : Half
  hscale : Byte
  vscale : Byte
  opacity : Byte
  keyPresent : Byte
  key : Byte
deriving DecidableEq, Repr

/-- The parameter block of PANE-SCROLL (Table 11-6); `rate` is signed two's complement (R167). -/
structure PaneScrollParams where
  pane : Byte
  axis : Byte
  lead : Half
  band : Half
  trail : Half
  rate : Byte
  requestedPresent : Byte
  requested : Half
deriving DecidableEq, Repr

/-- The parameter block of WINDOW (Table 11-6). -/
structure WindowParams where
  base : Wide
  stride : Half
  width : Half
  height : Half
  order : Byte
deriving DecidableEq, Repr

/-- One run of a WRITE (R92): a value and a pixel count. -/
structure Run where
  value : Byte
  count : Half
deriving DecidableEq, Repr

/-- A command with its parameter block, read by Table 11-6. The first seventeen are queued commands,
the last four are urgent (Table 9-1). -/
inductive Request where
  | paneSet (p : PaneSetParams)
  | paneState (select on : Byte)
  | paneScroll (p : PaneScrollParams)
  | paletteLoad (first : Byte) (entries : List PaletteEntry)
  | markerSet (slot : Byte) (line : Half) (action : Byte)
  | backgroundSet (colour : Pixel)
  | window (p : WindowParams)
  | write (runs : List Run)
  | fill (value : Byte)
  | read (count : Byte)
  | commit
  | discard
  | fade (target : Byte) (frames : Half)
  | config (freeRun interval mask : Byte)
  | queryPane (pane : Byte)
  | queryPalette (first count copy : Byte)
  | identify
  | status (clear : Option Byte)
  | cancel
  | resetPart
  | enumerate (a : Byte)
deriving DecidableEq, Repr

/-- A packet of the down lane (Table 11-1). A CREDIT is the part's own (R161). -/
inductive DownPacket where
  | frameOpen (number width lines : Half)
  | line (pixels : List Pixel)
  | blank
  | frameClose (number : Half)
  | command (dest : Byte) (tag : Half) (code : Byte) (params : List Byte)
  | credit (count : Byte)
deriving DecidableEq, Repr

/-- The steps of the part, one constructor per row of spec/opcode_table.json. `time` is the time, in
microseconds, at which a step is taken; it stands on the steps whose rules read a time (R102, R114,
R117, R118; DESIGN CHOICE, log entry 3). The commands executed at the queue head carry no operand of their own: their parameter
blocks stand in the command queue, where COMMAND put them (R137, R138). -/
inductive Instr where
  | powerOn (time : Nat)
  | badPacket (bytes : List Byte)
  | frameOpen (time : Nat) (number width lines : Half)
  | line (pixels : List Pixel)
  | blank
  | frameClose (number : Half)
  | credit (count : Byte)
  | command (time : Nat) (dest : Byte) (tag : Half) (code : Byte) (params : List Byte)
  | paneSet
  | paneState
  | paneScroll
  | paletteLoad
  | markerSet
  | backgroundSet
  | window
  | write
  | fill
  | read
  | commit
  | discard
  | fade
  | config (time : Nat)
  | queryPane
  | queryPalette
  | identify
  | paceStep
  | lossTimerExpiry (time : Nat)
  | internalActiveLine (time : Nat)
  | internalBlankingLine (time : Nat)
  | upLanePacket (bytes : List Byte)
  | sendBegin
  | sendEnd
  | creditEmission
  | packetEmission
  | emissionEnd
deriving DecidableEq, Repr

end Sys2Proof
end

