-- ==== Sys2Proof/Decode.lean ====
section
/-! DEFINITION. Bytes on the lanes: byte order, the CRC (R168), the envelope (R167), the bytes of a
down-lane packet (Table 11-1), and `receive`, which reads the step that an arriving packet is (R169,
R170). `decodeTableWord` is the host's name: no row of the table gives bits. -/

namespace Sys2Proof

/-! ### Byte order (R167: most significant byte first) -/

/-- A number as one byte. -/
def byte1 (n : Nat) : Byte := BitVec.ofNat 8 n

/-- A number as two bytes. -/
def bytes2 (n : Nat) : List Byte := [byte1 (n / 256), byte1 n]

/-- A number as three bytes. -/
def bytes3 (n : Nat) : List Byte := [byte1 (n / 65536), byte1 (n / 256), byte1 n]

/-- A flag: 1 byte holding 0 or 1 (11.5). -/
def flagByte (b : Bool) : Byte := if b then 1 else 0

/-- Two bytes as a field. -/
def half (hi lo : Byte) : Half := hi ++ lo

/-- Three bytes as a field. -/
def wide (hi mid lo : Byte) : Wide := hi ++ mid ++ lo

/-! ### CRC (R168) -/

/-- One data bit: shift left; when the bit shifted out differs from the data bit, xor with 0x1021. -/
def crcBit (reg : Half) (data : Bool) : Half :=
  if reg.msb != data then (reg <<< 1) ^^^ 0x1021 else reg <<< 1

/-- One byte, most significant bit first. -/
def crcByte (reg : Half) (b : Byte) : Half :=
  [7, 6, 5, 4, 3, 2, 1, 0].foldl (fun r i => crcBit r (b.getLsbD i)) reg

/-- The CRC of a string of bytes: the register starts at 0xFFFF; no final inversion. -/
def crc (bytes : List Byte) : Half := bytes.foldl crcByte 0xFFFF

/-! ### The envelope (R167, Table 11-1) -/

/-- Kind, payload length, payload, CRC. -/
def envelope (kind : Byte) (payload : List Byte) : List Byte :=
  let body := kind :: bytes2 payload.length ++ payload
  body ++ bytes2 (crc body).toNat

/-- The pixels of a LINE payload, three bytes each. -/
def pixelBytes : List Pixel → List Byte
  | [] => []
  | p :: ps => p.red :: p.green :: p.blue :: pixelBytes ps

/-- The payload and the kind of a down-lane packet (Table 11-1, Table 11-5). -/
def DownPacket.body : DownPacket → Byte × List Byte
  | .frameOpen number width lines =>
    (0x10, bytes2 number.toNat ++ bytes2 width.toNat ++ bytes2 lines.toNat)
  | .line pixels => (0x11, bytes2 pixels.length ++ pixelBytes pixels)
  | .blank => (0x12, [])
  | .frameClose number => (0x13, bytes2 number.toNat)
  | .command dest tag code params => (0x20, dest :: bytes2 tag.toNat ++ code :: params)
  | .credit count => (0x21, [count])

/-- The bytes of a down-lane packet. A packet forwarded with its content unchanged was received good, so
the CRC computed here is the CRC it arrived with (R168; DEDUCED, log entry 12). -/
def DownPacket.bytes (p : DownPacket) : List Byte := envelope p.body.1 p.body.2

/-! ### The down-lane receiver (R167, R169) -/

/-- The pixels of a LINE payload behind its count; none unless the bytes are whole pixels. -/
def readPixels : List Byte → Option (List Pixel)
  | [] => some []
  | r :: g :: b :: rest => (readPixels rest).map (⟨r, g, b⟩ :: ·)
  | _ => none

/-- The packet that a kind and a payload make, when the kind is a down-lane kind and the payload fits it
(R169, Table 11-1). -/
def readBody (kind : Byte) (payload : List Byte) : Option DownPacket :=
  if kind = 0x10 then
    match payload with
    | [n1, n0, w1, w0, h1, h0] => some (.frameOpen (half n1 n0) (half w1 w0) (half h1 h0))
    | _ => none
  else if kind = 0x11 then
    match payload with
    | c1 :: c0 :: rest =>
      match readPixels rest with
      | some px => if px.length = (half c1 c0).toNat ∧ px.length ≤ 2048 then some (.line px) else none
      | none => none
    | _ => none
  else if kind = 0x12 then
    match payload with
    | [] => some .blank
    | _ => none
  else if kind = 0x13 then
    match payload with
    | [n1, n0] => some (.frameClose (half n1 n0))
    | _ => none
  else if kind = 0x20 then
    match payload with
    | dest :: t1 :: t0 :: code :: params =>
      if params.length ≤ 248 then some (.command dest (half t1 t0) code params) else none
    | _ => none
  else if kind = 0x21 then
    match payload with
    | [count] => some (.credit count)
    | _ => none
  else none

/-- The packet that received bytes are, or none where R169 drops them: the number of bytes is not
5 + payload length, the CRC is not as R168 requires, or kind and payload do not fit. -/
def readPacket (bytes : List Byte) : Option DownPacket :=
  match bytes with
  | kind :: l1 :: l0 :: rest =>
    let n := (half l1 l0).toNat
    if rest.length = n + 2 ∧ bytes2 (crc (bytes.take (3 + n))).toNat = rest.drop n then
      readBody kind (rest.take n)
    else none
  | _ => none

/-- The step that an arriving packet is, by its kind (R169, R170). -/
def receive (time : Nat) (bytes : List Byte) : Instr :=
  match readPacket bytes with
  | none => .badPacket bytes
  | some (.frameOpen number width lines) => .frameOpen time number width lines
  | some (.line pixels) => .line pixels
  | some .blank => .blank
  | some (.frameClose number) => .frameClose number
  | some (.command dest tag code params) => .command time dest tag code params
  | some (.credit count) => .credit count

/-! ### The host's word decoder -/

/-- The command a table word spells: no row of spec/opcode_table.json gives bits, so none
(DESIGN CHOICE, log entry 10). -/
def decodeTableWord (_nbits _w : Nat) : Option Instr := none

end Sys2Proof
end

