-- ==== Sys2Proof/Machine/State.lean ====
section
/-! DEFINITION. The state of the part as plain data, block by block (Table 0-1), and its value after
RESETn. Numbers the manual counts with are `Nat` under the invariants of Safety.lean; packet fields and
frame numbers are bit vectors of the width the layout tables give. -/

namespace Sys2Proof.Machine

/-! ### Panes (Chapter 1, Chapter 3) -/

/-- Scroll axis (R41). -/
inductive Axis where
  | none | vertical | horizontal
deriving DecidableEq, Repr

/-- The scroll descriptor held by both copies (R41): the geometry (axis, lead, band, trail) and the rate. -/
structure Scroll where
  axis : Axis
  lead : Nat
  band : Nat
  trail : Nat
  rate : Int
deriving DecidableEq, Repr

/-- The descriptor of a pane that does not scroll (R42). -/
def Scroll.still : Scroll := ⟨.none, 0, 0, 0, 0⟩

/-- The fields of a pane record that both copies hold (Table 1-1). `on` is the state ON. -/
structure PaneRec where
  on : Bool
  screenX : Nat
  screenY : Nat
  base : Nat
  stride : Nat
  width : Nat
  height : Nat
  hscale : Nat
  vscale : Nat
  opacity : Nat
  key : Option Byte
  scroll : Scroll
deriving DecidableEq, Repr

/-- The default record (Table 1-1). -/
def PaneRec.default : PaneRec := ⟨false, 0, 0, 0, 1, 1, 1, 1, 1, 16, none, Scroll.still⟩

/-- A shadow pane record: the requested offset is the shadow's alone (R1). -/
structure ShadowPane where
  fields : PaneRec
  requested : Option Nat
deriving DecidableEq, Repr

/-- An active pane record: the current offset is the active copy's alone (R1). -/
structure ActivePane where
  fields : PaneRec
  offset : Nat
deriving DecidableEq, Repr

/-- The pane table (R1). -/
structure PaneTable where
  shadow : Vector ShadowPane 8
  active : Vector ActivePane 8
deriving DecidableEq, Repr

/-- Both copies at their defaults (R17, R18). -/
def PaneTable.default : PaneTable :=
  ⟨Vector.replicate 8 ⟨PaneRec.default, none⟩, Vector.replicate 8 ⟨PaneRec.default, 0⟩⟩

/-! ### Palette and fade (Chapter 4) -/

/-- The palette and the background colour, each in two copies (R54, R55). -/
structure PaletteTable where
  shadow : Vector PaletteEntry 256
  active : Vector PaletteEntry 256
  shadowBackground : Pixel
  activeBackground : Pixel
deriving DecidableEq, Repr

/-- After power-on (R54, R55, R65). -/
def PaletteTable.default : PaletteTable :=
  ⟨Vector.replicate 256 ⟨0, 0, 0, 0⟩, Vector.replicate 256 ⟨0, 0, 0, 0⟩, ⟨0, 0, 0⟩, ⟨0, 0, 0⟩⟩

/-- The fade engine (Table 4-3). -/
structure FadeEngine where
  level : Nat
  ramp : Bool
  start : Nat
  target : Nat
  count : Nat
  done : Nat
deriving DecidableEq, Repr

/-- After power-on and after RESET-PART (R61, R65). -/
def FadeEngine.default : FadeEngine := ⟨16, false, 16, 16, 0, 0⟩

/-! ### Compositor (Chapter 2) -/

/-- A set of panes as eight flags, bit k for pane k (11.5). -/
abbrev PaneSet := BitVec 8

/-- The admission result of the last composed line (R27). -/
structure Admission where
  admitted : PaneSet
  skipped : PaneSet
deriving DecidableEq, Repr

/-- The overrun record (R28). -/
structure Overrun where
  skipped : PaneSet
  firstLine : Option Nat
  paneLines : Nat
deriving DecidableEq, Repr

/-- An emptied overrun record (R29). -/
def Overrun.empty : Overrun := ⟨0, none, 0⟩

/-- The compositor's own state. -/
structure Compositor where
  admission : Admission
  overrun : Overrun
deriving DecidableEq, Repr

/-! ### Index store and store writer (Chapter 6) -/

/-- The index store (R80) in canonical form: `cells` lists, with rising addresses, the entries that
differ from what an unlisted entry holds: 0 below the clear progress, the free power-up value at and
above it (R81). `powerOns` is the model's own count of power-ons, which picks the free values. -/
structure IndexStore where
  cells : List Host.Cell
  progress : Nat
  powerOns : Nat
deriving DecidableEq, Repr

/-- Order of a write window (R83). -/
inductive Order where
  | rowFirst | columnFirst
deriving DecidableEq, Repr

/-- A present write window (R83). -/
structure Window where
  base : Nat
  stride : Nat
  width : Nat
  height : Nat
  order : Order
deriving DecidableEq, Repr

/-- A present cursor (R83). -/
inductive Cursor where
  | pos (column row : Nat)
  | exhausted
deriving DecidableEq, Repr

/-- What a store job carries (R85, R92, R94, R95). -/
inductive Work where
  | window (p : WindowParams)
  | write (runs : List Run)
  | fill (value : Byte)
  | read (count : Byte)
deriving DecidableEq, Repr

/-- A waiting job: the command's tag and its work (R86). -/
structure Job where
  tag : Half
  work : Work
deriving DecidableEq, Repr

/-- How far the running job has come: a WRITE's runs still to be written and its written count; a FILL's
value, captured window and count written; a READ's count still to be read and the indices read, in order. -/
inductive Progress where
  | write (left : List (Byte × Nat)) (written : Nat)
  | fill (value : Byte) (window : Window) (written : Nat)
  | read (left : Nat) (got : List Byte)
deriving DecidableEq, Repr

/-- The running software job. A WINDOW ends in the happening that starts it and never runs on (R85). -/
structure Running where
  tag : Half
  progress : Progress
deriving DecidableEq, Repr

/-- The store writer. Its state (R86) is CLEARING while the store's clear progress is below 262,144,
RUNNING while `running` holds a job, IDLE otherwise. -/
structure StoreWriter where
  window : Option Window
  cursor : Option Cursor
  jobs : List Job
  running : Option Running
  allowance : Nat
deriving DecidableEq, Repr

/-! ### Video tracker (Chapter 7) -/

/-- State of the tracker (R102), coded as STATUS reports it: 0, 1, 2 (11.5). -/
inductive TrackerState where
  | freeRun | inFrame | betweenFrames
deriving DecidableEq, Repr

/-- Kind of a frame (Table 7-2). -/
inductive FrameKind where
  | locked | passThrough | internal
deriving DecidableEq, Repr

/-- The current frame record (Table 7-2). `periodBase` is the previous open time that the frame's
FRAME-OPEN copied for period measurement (R102, R117). -/
structure FrameRecord where
  number : Half
  kind : FrameKind
  width : Option Nat
  lines : Option Nat
  linesTaken : Nat
  openedFrom : Option TrackerState
  blanksBefore : Nat
  openTime : Option Nat
  periodBase : Option Nat
deriving DecidableEq, Repr

/-- The frame-fault record (R103). -/
structure FrameFaults where
  width : Nat
  excess : Nat
  short : Nat
  strays : Nat
  cut : Bool
deriving DecidableEq, Repr

/-- All five fields 0 (R103). -/
def FrameFaults.zero : FrameFaults := ⟨0, 0, 0, 0, false⟩

/-- The timing record (R117). -/
structure Timing where
  width : Nat
  lines : Nat
  blanks : Nat
  period : Nat
deriving DecidableEq, Repr

/-- Default timing (R117). -/
def Timing.default : Timing := ⟨1280, 720, 30, 16667⟩

/-- The internal generator while it runs (R118): the time its frame started, the B and P read from the
timing record at that frame start (W and H stand in the frame record), and the slots that have ended. -/
structure Generator where
  start : Nat
  blanks : Nat
  period : Nat
  slot : Nat
deriving DecidableEq, Repr

/-- The video tracker. `lossStart` is the time of the last restart of the loss timer, absent while the
timer is stopped (R114). -/
structure Tracker where
  state : TrackerState
  frame : FrameRecord
  faults : FrameFaults
  timing : Timing
  generator : Option Generator
  lossStart : Option Nat
  prevOpen : Option Nat
  blankCount : Nat
  strays : Nat
  framesCut : Nat
deriving DecidableEq, Repr

/-! ### Marker unit (Chapter 8) -/

/-- Action of a marker slot (R122). -/
inductive MarkerAction where
  | off | notice | pulse | both
deriving DecidableEq, Repr

/-- A marker slot (Table 8-1). -/
structure MarkerSlot where
  line : Nat
  action : MarkerAction
deriving DecidableEq, Repr

/-- The marker unit: two tables of four slots and the level of MARK, `true` for high (R122, R127). -/
structure MarkerUnit where
  shadow : Vector MarkerSlot 4
  active : Vector MarkerSlot 4
  mark : Bool
deriving DecidableEq, Repr

/-- After power-on and after RESET-PART (R129). -/
def MarkerUnit.default : MarkerUnit :=
  ⟨Vector.replicate 4 ⟨0, .off⟩, Vector.replicate 4 ⟨0, .off⟩, false⟩

/-! ### Command unit (Chapter 9) -/

/-- Reply statuses (Table 9-4), coded 0..7 (Table 11-5). -/
inductive Status where
  | done | refusedFormat | refusedTag | refusedFull | refusedRange | refusedNoWindow | cancelled | chainFull
deriving DecidableEq, Repr

/-- How a queued command arrived: addressed, with its tag (0 is untagged), or broadcast (R132, R137). -/
inductive Origin where
  | addressed (tag : Half)
  | broadcast
deriving DecidableEq, Repr

/-- An entry of the command queue (R137); its parameter block stands as the command it was read as (DEDUCED, log
entry 13). -/
structure Entry where
  origin : Origin
  request : Request
deriving DecidableEq, Repr

/-- An entry of the reply cache (R142). The cursor is the header field the reply carried (Table 11-5). -/
structure CacheEntry where
  tag : Half
  code : Byte
  status : Status
  cursor : Option Cursor
  payload : List Byte
deriving DecidableEq, Repr

/-- The configuration (R144): free-run output, the loss interval in milliseconds, and the notice mask,
bit k-1 for notice kind k (Table 11-6). -/
structure Configuration where
  freeRun : Bool
  lossInterval : Nat
  mask : Byte
deriving DecidableEq, Repr

/-- Default configuration (R144). -/
def Configuration.default : Configuration := ⟨false, 100, 0xFF⟩

/-- The command unit. Entries of both lists stand oldest first. -/
structure CommandUnit where
  queue : List Entry
  cache : List CacheEntry
  config : Configuration
  drops : Nat
deriving DecidableEq, Repr

/-! ### Up-lane transmitter (Chapter 10) -/

/-- Notice kinds (Table 10-1), coded 1..8 (Table 11-5). -/
inductive NoticeKind where
  | videoLost | videoLocked | committed | overrun | frameFaults | fadeDone | marker | clearDone
deriving DecidableEq, Repr

/-- A REPLY packet (R141, Table 11-5). -/
structure Reply where
  address : Nat
  tag : Half
  code : Byte
  status : Status
  replayed : Bool
  cursor : Option Cursor
  payload : List Byte
deriving DecidableEq, Repr

/-- A NOTICE packet (R158). -/
structure Notice where
  address : Nat
  kind : NoticeKind
  lost : Nat
  payload : List Byte
deriving DecidableEq, Repr

/-- A packet of the outbox (R152). -/
inductive UpPacket where
  | reply (r : Reply)
  | notice (n : Notice)
deriving DecidableEq, Repr

/-- What is on the up-lane output: a packet of the part, or a relayed packet, whose bytes are kept as
they arrived (R160, R163). -/
inductive UpSend where
  | own (p : UpPacket)
  | relayed (bytes : List Byte)
deriving DecidableEq, Repr

/-- The arbiter's turn (R164). -/
inductive Turn where
  | relay | outbox
deriving DecidableEq, Repr

/-- The up-lane transmitter. Queues stand oldest first; `sending` is the packet of the send in progress. -/
structure UpLane where
  outbox : List UpPacket
  reserved : Nat
  lost : Nat
  relay : List (List Byte)
  sendCredits : Nat
  creditsOwed : Nat
  turn : Turn
  upDrops : Nat
  relayOverflow : Nat
  sending : Option UpSend
deriving DecidableEq, Repr

/-! ### Down lane (Chapter 11) -/

/-- The down-lane transmitter (R171): packets handed over and not yet emitted, oldest first, and the
packet of the emission in progress. -/
structure DownLane where
  waiting : List DownPacket
  emitting : Option DownPacket
deriving DecidableEq, Repr

/-! ### The part -/

/-- The whole state. `orderings` counts the free choices of R159 taken so far (the model's own field), and
`pending` is the queue of steps that are waiting (the model's own field; the host's interface). -/
structure State where
  address : Nat
  badPackets : Nat
  tracker : Tracker
  panes : PaneTable
  palette : PaletteTable
  fade : FadeEngine
  commitPending : Bool
  compositor : Compositor
  store : IndexStore
  writer : StoreWriter
  markers : MarkerUnit
  commands : CommandUnit
  up : UpLane
  down : DownLane
  orderings : Nat
  pending : List Instr
deriving DecidableEq, Repr

/-- Why the machine stops. -/
inductive Fault where
  /-- SAFE. Raised by LINE and INTERNAL_ACTIVE_LINE when the line is to be composed and an active pane
  record is not valid (R6), and by PACE_STEP when the write window, the cursor or a running FILL's window
  does not lie inside the index store (R83): an access to an entry that does not exist. No state that the
  part reaches has such a record or window (log entry 6). -/
  | outsideStore
deriving DecidableEq, Repr

/-- Why a step has no meaning. -/
inductive Refusal where
  /-- SAFE. Raised only by `exec`'s arm of a row whose meaning is not written. No arm does. -/
  | notModelled (mnemonic : String)
deriving DecidableEq, Repr

/-- Internal frame 0 at the default timing, begun at `time` (R113, R118, R121). -/
def FrameRecord.powerOn : FrameRecord :=
  { number := 0, kind := .internal, width := some 1280, lines := some 720, linesTaken := 0,
    openedFrom := none, blanksBefore := 0, openTime := none, periodBase := none }

/-- The tracker after power-on at `time` (R121, Table 7-3). -/
def Tracker.powerOn (time : Nat) : Tracker :=
  { state := .freeRun, frame := FrameRecord.powerOn, faults := FrameFaults.zero,
    timing := Timing.default, generator := some ⟨time, 30, 16667, 0⟩, lossStart := none,
    prevOpen := none, blankCount := 0, strays := 0, framesCut := 0 }

/-- The part right after the `powerOns`-th RESETn, taken at `time` (R17, R27, R29, R65, R79, R101, R121,
R129, R151, R166, R176), with the model's own fields as given. -/
def State.afterPowerOn (time powerOns orderings : Nat) (pending : List Instr) : State :=
  { address := 0
    badPackets := 0
    tracker := Tracker.powerOn time
    panes := PaneTable.default
    palette := PaletteTable.default
    fade := FadeEngine.default
    commitPending := false
    compositor := ⟨⟨0, 0⟩, Overrun.empty⟩
    store := ⟨[], 0, powerOns⟩
    writer := ⟨none, none, [], none, 0⟩
    markers := MarkerUnit.default
    commands := ⟨[], [], Configuration.default, 0⟩
    up := { outbox := [], reserved := 0, lost := 0, relay := [], sendCredits := 0, creditsOwed := 8,
            turn := .relay, upDrops := 0, relayOverflow := 0, sending := none }
    down := ⟨[], none⟩
    orderings := orderings
    pending := pending }

/-- The machine right after reset: the first power-on, at time 0, with no step waiting (DESIGN CHOICE, log
entries 2 to 5). -/
def State.reset : State := State.afterPowerOn 0 0 0 []

end Sys2Proof.Machine
end

