-- ==== Sys2Proof/Machine/Operands.lean ====
section
/-! DEFINITION. The operand forms of commands: codes and classes (Tables 9-1, 11-6), the reading of a
parameter block, which is the format check (R131, R177), its writing, and the coded fields (axis, order,
action) of the layout tables (11.5). -/

namespace Sys2Proof.Machine

/-- Class of a command (Table 9-1). -/
inductive CommandClass where
  | staging | store | other | urgent
deriving DecidableEq, Repr

/-- Command code (Table 11-6). -/
def requestCode : Request → Byte
  | .paneSet _ => 0x01
  | .paneState .. => 0x02
  | .paneScroll _ => 0x03
  | .paletteLoad .. => 0x04
  | .markerSet .. => 0x05
  | .backgroundSet _ => 0x06
  | .window _ => 0x10
  | .write _ => 0x11
  | .fill _ => 0x12
  | .read _ => 0x13
  | .commit => 0x20
  | .discard => 0x21
  | .fade .. => 0x22
  | .config .. => 0x23
  | .queryPane _ => 0x24
  | .queryPalette .. => 0x25
  | .identify => 0x26
  | .status _ => 0x30
  | .cancel => 0x31
  | .resetPart => 0x32
  | .enumerate _ => 0x33

/-- Class of a command (Table 9-1). -/
def requestClass : Request → CommandClass
  | .paneSet _ | .paneState .. | .paneScroll _ | .paletteLoad .. | .markerSet .. | .backgroundSet _ => .staging
  | .window _ | .write _ | .fill _ | .read _ => .store
  | .commit | .discard | .fade .. | .config .. | .queryPane _ | .queryPalette .. | .identify => .other
  | .status _ | .cancel | .resetPart | .enumerate _ => .urgent

/-! ### Reading a parameter block (Table 11-6): none where the length is not one of the code's -/

/-- PANE-SET, 19 bytes (Table 11-7). -/
def readPaneSet : List Byte → Option Request
  | [p, x1, x0, y1, y0, b2, b1, b0, s1, s0, w1, w0, h1, h0, hs, vs, o, kp, k] =>
    some (.paneSet ⟨p, half x1 x0, half y1 y0, wide b2 b1 b0, half s1 s0, half w1 w0, half h1 h0, hs, vs, o, kp, k⟩)
  | _ => none

/-- PANE-SCROLL, 12 bytes. -/
def readPaneScroll : List Byte → Option Request
  | [p, a, l1, l0, b1, b0, t1, t0, r, rp, o1, o0] =>
    some (.paneScroll ⟨p, a, half l1 l0, half b1 b0, half t1 t0, r, rp, half o1 o0⟩)
  | _ => none

/-- Palette entries of four bytes each (Table 11-8); none unless the bytes are whole entries. -/
def readEntries : List Byte → Option (List PaletteEntry)
  | [] => some []
  | r :: g :: b :: o :: rest => (readEntries rest).map (⟨r, g, b, o⟩ :: ·)
  | _ => none

/-- PALETTE-LOAD, 1 + 4k bytes, k in 1..48. -/
def readPaletteLoad : List Byte → Option Request
  | first :: rest =>
    match readEntries rest with
    | some es => if 1 ≤ es.length ∧ es.length ≤ 48 then some (.paletteLoad first es) else none
    | none => none
  | _ => none

/-- WINDOW, 10 bytes. -/
def readWindow : List Byte → Option Request
  | [b2, b1, b0, s1, s0, w1, w0, h1, h0, o] =>
    some (.window ⟨wide b2 b1 b0, half s1 s0, half w1 w0, half h1 h0, o⟩)
  | _ => none

/-- Runs of three bytes each; none unless the bytes are whole runs. -/
def readRuns : List Byte → Option (List Run)
  | [] => some []
  | v :: c1 :: c0 :: rest => (readRuns rest).map (⟨v, half c1 c0⟩ :: ·)
  | _ => none

/-- WRITE, 3k bytes, k in 1..60. -/
def readWrite (params : List Byte) : Option Request :=
  match readRuns params with
  | some rs => if 1 ≤ rs.length ∧ rs.length ≤ 60 then some (.write rs) else none
  | none => none

/-- A block of exactly one byte. -/
def readOne (f : Byte → Request) : List Byte → Option Request
  | [a] => some (f a)
  | _ => none

/-- A block of exactly two bytes. -/
def readTwo (f : Byte → Byte → Request) : List Byte → Option Request
  | [a, b] => some (f a b)
  | _ => none

/-- A block of exactly three bytes. -/
def readThree (f : Byte → Byte → Byte → Request) : List Byte → Option Request
  | [a, b, c] => some (f a b c)
  | _ => none

/-- A block of exactly four bytes. -/
def readFour (f : Byte → Byte → Byte → Byte → Request) : List Byte → Option Request
  | [a, b, c, d] => some (f a b c d)
  | _ => none

/-- An empty block. -/
def readNothing (r : Request) : List Byte → Option Request
  | [] => some r
  | _ => none

/-- STATUS: an empty block, or the clear-counters flag (R145). -/
def readStatus : List Byte → Option Request
  | [] => some (.status none)
  | [f] => some (.status (some f))
  | _ => none

/-- The command that a code and a parameter block make: none where the code is not listed or the length
is not one the table accepts for it (R131, R177). -/
def readRequest (code : Byte) (params : List Byte) : Option Request :=
  if code = 0x01 then readPaneSet params
  else if code = 0x02 then readTwo .paneState params
  else if code = 0x03 then readPaneScroll params
  else if code = 0x04 then readPaletteLoad params
  else if code = 0x05 then readFour (fun s l1 l0 a => .markerSet s (half l1 l0) a) params
  else if code = 0x06 then readThree (fun r g b => .backgroundSet ⟨r, g, b⟩) params
  else if code = 0x10 then readWindow params
  else if code = 0x11 then readWrite params
  else if code = 0x12 then readOne .fill params
  else if code = 0x13 then readOne .read params
  else if code = 0x20 then readNothing .commit params
  else if code = 0x21 then readNothing .discard params
  else if code = 0x22 then readThree (fun t n1 n0 => .fade t (half n1 n0)) params
  else if code = 0x23 then readThree .config params
  else if code = 0x24 then readOne .queryPane params
  else if code = 0x25 then readThree .queryPalette params
  else if code = 0x26 then readNothing .identify params
  else if code = 0x30 then readStatus params
  else if code = 0x31 then readNothing .cancel params
  else if code = 0x32 then readNothing .resetPart params
  else if code = 0x33 then readOne .enumerate params
  else none

/-- May the command be broadcast (Table 11-6, last column)? -/
def broadcastPermitted : Request → Bool
  | .commit | .fade .. | .resetPart | .enumerate _ => true
  | _ => false

/-! ### Writing a parameter block -/

/-- Palette entries as bytes (Table 11-8). -/
def entryBytes : List PaletteEntry → List Byte
  | [] => []
  | e :: es => e.red :: e.green :: e.blue :: e.opacity :: entryBytes es

/-- Runs as bytes. -/
def runBytes : List Run → List Byte
  | [] => []
  | r :: rs => r.value :: bytes2 r.count.toNat ++ runBytes rs

/-- The parameter block of a command (Table 11-6). -/
def requestParams : Request → List Byte
  | .paneSet p =>
    p.pane :: bytes2 p.screenX.toNat ++ bytes2 p.screenY.toNat ++ bytes3 p.base.toNat ++ bytes2 p.stride.toNat
      ++ bytes2 p.width.toNat ++ bytes2 p.height.toNat ++ [p.hscale, p.vscale, p.opacity, p.keyPresent, p.key]
  | .paneState select on => [select, on]
  | .paneScroll p =>
    p.pane :: p.axis :: bytes2 p.lead.toNat ++ bytes2 p.band.toNat ++ bytes2 p.trail.toNat
      ++ [p.rate, p.requestedPresent] ++ bytes2 p.requested.toNat
  | .paletteLoad first entries => first :: entryBytes entries
  | .markerSet slot line action => slot :: bytes2 line.toNat ++ [action]
  | .backgroundSet c => [c.red, c.green, c.blue]
  | .window p =>
    bytes3 p.base.toNat ++ bytes2 p.stride.toNat ++ bytes2 p.width.toNat ++ bytes2 p.height.toNat ++ [p.order]
  | .write runs => runBytes runs
  | .fill value => [value]
  | .read count => [count]
  | .commit => []
  | .discard => []
  | .fade target frames => target :: bytes2 frames.toNat
  | .config freeRun interval mask => [freeRun, interval, mask]
  | .queryPane pane => [pane]
  | .queryPalette first count copy => [first, count, copy]
  | .identify => []
  | .status none => []
  | .status (some f) => [f]
  | .cancel => []
  | .resetPart => []
  | .enumerate a => [a]

/-- Commands whose block the format admits: the list lengths of PALETTE-LOAD and WRITE (Table 11-6). -/
def requestLengthsFit : Request → Bool
  | .paletteLoad _ entries => 1 ≤ entries.length && entries.length ≤ 48
  | .write runs => 1 ≤ runs.length && runs.length ≤ 60
  | _ => true

/-! ### Coded fields (11.5) -/

/-- Axis: 0 NONE, 1 VERTICAL, 2 HORIZONTAL. -/
def axisOf (b : Byte) : Option Axis :=
  if b = 0 then some .none else if b = 1 then some .vertical else if b = 2 then some .horizontal else none

/-- The code of an axis. -/
def axisByte : Axis → Byte
  | .none => 0
  | .vertical => 1
  | .horizontal => 2

/-- Order: 0 ROW-FIRST, 1 COLUMN-FIRST. -/
def orderOf (b : Byte) : Option Order :=
  if b = 0 then some .rowFirst else if b = 1 then some .columnFirst else none

/-- Action: 0 OFF, 1 NOTICE, 2 PULSE, 3 BOTH. -/
def actionOf (b : Byte) : Option MarkerAction :=
  if b = 0 then some .off else if b = 1 then some .notice else if b = 2 then some .pulse
  else if b = 3 then some .both else none

/-- The code of an action. -/
def actionByte : MarkerAction → Byte
  | .off => 0
  | .notice => 1
  | .pulse => 2
  | .both => 3

/-- A tracker state as STATUS reports it. -/
def trackerByte : TrackerState → Byte
  | .freeRun => 0
  | .inFrame => 1
  | .betweenFrames => 2

/-- The code of a reply status (Table 11-5). -/
def statusByte : Status → Byte
  | .done => 0
  | .refusedFormat => 1
  | .refusedTag => 2
  | .refusedFull => 3
  | .refusedRange => 4
  | .refusedNoWindow => 5
  | .cancelled => 6
  | .chainFull => 7

/-- The number of a notice kind (Table 11-5). -/
def noticeNumber : NoticeKind → Nat
  | .videoLost => 1
  | .videoLocked => 2
  | .committed => 3
  | .overrun => 4
  | .frameFaults => 5
  | .fadeDone => 6
  | .marker => 7
  | .clearDone => 8

/-- The cursor field of a REPLY header: kind, column, row (Table 11-5). An absent cursor has kind 0 and the value 0
(11.5: "An absent value is reported with its present flag 0 and a value of 0"). With kind 2 EXHAUSTED the spec gives
column and row no value: they are the free value of log entry 16, of the packet's other `content` (DESIGN CHOICE). -/
def cursorBytes (content : List Byte) : Option Cursor → List Byte
  | none => [0, 0, 0, 0, 0]
  | some (.pos column row) => 1 :: bytes2 column ++ bytes2 row
  | some .exhausted =>
    let place := Config.exhaustedPlace content
    2 :: bytes2 place.1.toNat ++ bytes2 place.2.toNat

/-- The bytes of an up-lane packet (Table 11-1, Table 11-5), with a CRC of its own (R168). -/
def upPacketBytes : UpPacket → List Byte
  | .reply r =>
    let header := byte1 r.address :: bytes2 r.tag.toNat ++ [r.code, statusByte r.status, flagByte r.replayed]
    envelope 0x30 (header ++ cursorBytes (header ++ r.payload) r.cursor ++ r.payload)
  | .notice n =>
    envelope 0x31 (byte1 n.address :: byte1 (noticeNumber n.kind) :: byte1 n.lost :: n.payload)

/-- The bytes on the up-lane output: a relayed packet keeps its bytes as they arrived (R160). -/
def upSendBytes : UpSend → List Byte
  | .own p => upPacketBytes p
  | .relayed bytes => bytes

end Sys2Proof.Machine
end

