-- ==== Sys2Proof/Machine/Flags.lean ====
section
/-! DEFINITION. Counters that hold at their maximum, sets of panes as flags, the notice mask, and the
flags that replies carry (differs, scroll-cleared, restart). -/

namespace Sys2Proof.Machine

/-- A saturating counter after one more increment (00_scope.md: it holds its maximum when incremented there). -/
def satSucc (limit n : Nat) : Nat := if n < limit then n + 1 else limit

/-- A 16-bit counter after one more increment (R146). -/
def count16 (n : Nat) : Nat := satSucc Config.counterMax n

/-- The eight pane numbers, lowest first. -/
def paneNumbers : List (Fin 8) := [0, 1, 2, 3, 4, 5, 6, 7]

/-- The set with one pane. -/
def paneFlag (i : Fin 8) : PaneSet := 1#8 <<< i.val

/-- Is the pane in the set? -/
def paneIn (set : PaneSet) (i : Fin 8) : Bool := set.getLsbD i.val

/-- The set of the panes that meet a test. -/
def paneSetOf (test : Fin 8 → Bool) : PaneSet :=
  paneNumbers.foldl (fun acc i => if test i then acc ||| paneFlag i else acc) 0

/-- How many panes the set holds. -/
def paneCount (set : PaneSet) : Nat := (paneNumbers.filter (paneIn set)).length

/-- Is a notice kind enabled in the mask? Bit k-1 stands for kind k (Table 11-6). -/
def maskEnables (mask : Byte) (kind : NoticeKind) : Bool := mask.getLsbD (noticeNumber kind - 1)

/-- The differs flag of QUERY-PANE: some field held by both copies differs (R15). -/
def paneDiffers (shadow : ShadowPane) (active : ActivePane) : Bool := decide (shadow.fields ≠ active.fields)

/-- Equal geometry of two descriptors: axis, lead, band and trail; the rate does not count (R41). -/
def sameGeometry (a b : Scroll) : Bool :=
  decide (a.axis = b.axis ∧ a.lead = b.lead ∧ a.band = b.band ∧ a.trail = b.trail)

/-- The extent changes (R11). -/
def extentChanges (old : PaneRec) (width height : Nat) : Bool := decide (old.width ≠ width ∨ old.height ≠ height)

/-- The scroll-cleared flag of PANE-SET: a descriptor with an axis was cleared (R12). -/
def scrollCleared (old : PaneRec) (width height : Nat) : Bool :=
  extentChanges old width height && decide (old.scroll.axis ≠ .none)

/-- The restart flag of PANE-SCROLL (R47). -/
def restartFlag (written active : Scroll) : Bool := !sameGeometry written active

end Sys2Proof.Machine
end

