-- ==== Sys2Proof/Machine/Ops.lean ====
section
/-! DEFINITION. The shared operations: one setter per block of the state, the index store's reads and
writes, admission to the outbox (Chapter 10), replies with the reply cache (Chapter 9), offers of notices,
and hand-over to the down-lane transmitter (Chapter 11). -/

namespace Sys2Proof.Machine

/-! ### Setters, one per block -/

def State.withAddress (s : State) (x : Nat) : State := { s with address := x }
def State.withBadPackets (s : State) (x : Nat) : State := { s with badPackets := x }
def State.withTracker (s : State) (x : Tracker) : State := { s with tracker := x }
def State.withPanes (s : State) (x : PaneTable) : State := { s with panes := x }
def State.withPalette (s : State) (x : PaletteTable) : State := { s with palette := x }
def State.withFade (s : State) (x : FadeEngine) : State := { s with fade := x }
def State.withCommitPending (s : State) (x : Bool) : State := { s with commitPending := x }
def State.withCompositor (s : State) (x : Compositor) : State := { s with compositor := x }
def State.withStore (s : State) (x : IndexStore) : State := { s with store := x }
def State.withWriter (s : State) (x : StoreWriter) : State := { s with writer := x }
def State.withMarkers (s : State) (x : MarkerUnit) : State := { s with markers := x }
def State.withCommands (s : State) (x : CommandUnit) : State := { s with commands := x }
def State.withUp (s : State) (x : UpLane) : State := { s with up := x }
def State.withDown (s : State) (x : DownLane) : State := { s with down := x }
def State.withOrderings (s : State) (x : Nat) : State := { s with orderings := x }
def State.withPending (s : State) (x : List Instr) : State := { s with pending := x }

/-! ### The index store (R80, R81) -/

/-- What an entry that `cells` does not list holds: 0 below the clear progress, and its free power-up
value at and above it (R81). -/
def IndexStore.unlisted (st : IndexStore) (a : Nat) : Byte :=
  if a < st.progress then 0 else Config.powerUpEntry st.powerOns a

/-- The value listed at an address, if one is. -/
def cellAt : List Host.Cell → Nat → Option Byte
  | [], _ => none
  | (k, v) :: rest, a => if k = a then some v else cellAt rest a

/-- List a value at an address, keeping the addresses rising. -/
def insertCell : List Host.Cell → Nat → Byte → List Host.Cell
  | [], a, v => [(a, v)]
  | (k, w) :: rest, a, v =>
    if a < k then (a, v) :: (k, w) :: rest
    else if a = k then (a, v) :: rest
    else (k, w) :: insertCell rest a v

/-- List nothing at an address. -/
def eraseCell : List Host.Cell → Nat → List Host.Cell
  | [], _ => []
  | (k, w) :: rest, a => if k = a then eraseCell rest a else (k, w) :: eraseCell rest a

/-- The index an entry holds (R80). -/
def IndexStore.read (st : IndexStore) (a : Nat) : Byte := (cellAt st.cells a).getD (st.unlisted a)

/-- Write one entry (R80), keeping the canonical form. -/
def IndexStore.write (st : IndexStore) (a : Nat) (v : Byte) : IndexStore :=
  if v = st.unlisted a then { st with cells := eraseCell st.cells a }
  else { st with cells := insertCell st.cells a v }

/-- One pixel of the start-up clear: index 0 to the entry at the progress address, then the progress
increases by 1 (R81). -/
def IndexStore.clearOne (st : IndexStore) : IndexStore :=
  { st with cells := eraseCell st.cells st.progress, progress := st.progress + 1 }

/-- The canonical form: rising addresses, and no entry equal to what an unlisted address holds. -/
abbrev IndexStore.wf (st : IndexStore) : Prop :=
  st.cells.Pairwise (fun a b => a.1 < b.1) ∧ ∀ c ∈ st.cells, c.2 ≠ st.unlisted c.1

/-- The start-up clear is running (R81, R82). -/
def State.clearing (s : State) : Bool := decide (s.store.progress < Config.storeEntries)

/-! ### The outbox (R152 to R157) -/

/-- Free slots (R152). -/
def UpLane.free (u : UpLane) : Nat := Config.outboxSize - u.outbox.length

/-- A packet lost on the up lane: both counts increase (R156, R157, R154). -/
def UpLane.drop (u : UpLane) : UpLane :=
  { u with upDrops := count16 u.upDrops, lost := satSucc Config.creditMax u.lost }

/-- An unreserved reply: admitted if the free slots exceed the reservation count, else dropped (R156). -/
def UpLane.offerReply (u : UpLane) (r : Reply) : UpLane :=
  if u.reserved < u.free then { u with outbox := u.outbox ++ [.reply r] } else u.drop

/-- A notice: as any unreserved packet; when admitted it carries the lost count and clears it (R157). -/
def UpLane.offerNotice (u : UpLane) (address : Nat) (kind : NoticeKind) (payload : List Byte) : UpLane :=
  if u.reserved < u.free then
    { u with outbox := u.outbox ++ [.notice ⟨address, kind, u.lost, payload⟩], lost := 0 }
  else u.drop

/-- A reserved reply: always admitted; the reservation count decreases (R155). -/
def UpLane.admitReserved (u : UpLane) (r : Reply) : UpLane :=
  { u with outbox := u.outbox ++ [.reply r], reserved := u.reserved - 1 }

/-! ### Replies (R140 to R142) -/

/-- Place an entry as the newest: an entry of the same tag is removed; else the oldest is, when the cache
is full (R142). -/
def cacheInsert (cache : List CacheEntry) (e : CacheEntry) : List CacheEntry :=
  let kept := cache.filter (fun c => decide (c.tag ≠ e.tag))
  if kept.length < cache.length then kept ++ [e]
  else if cache.length < Config.cacheSize then cache ++ [e]
  else cache.drop (cache.length + 1 - Config.cacheSize) ++ [e]

/-- The reply cache after a reserved reply: tagged replies are entered (R142). -/
def CommandUnit.remember (c : CommandUnit) (e : CacheEntry) : CommandUnit :=
  if e.tag = 0 then c else { c with cache := cacheInsert c.cache e }

/-- Build a reserved reply: the part's address as it stands, admission into the reservation, and the
cache (R140, R142, R155). -/
def State.replyReserved (s : State) (tag : Half) (code : Byte) (status : Status) (cursor : Option Cursor)
    (payload : List Byte) : State :=
  (s.withUp (s.up.admitReserved ⟨s.address, tag, code, status, false, cursor, payload⟩)).withCommands
    (s.commands.remember ⟨tag, code, status, cursor, payload⟩)

/-- Offer an unreserved reply that is no replay (R141, R156). -/
def State.replyUnreserved (s : State) (tag : Half) (code : Byte) (status : Status) (payload : List Byte) : State :=
  s.withUp (s.up.offerReply ⟨s.address, tag, code, status, false, none, payload⟩)

/-! ### Notices (R158, R159) -/

/-- A notice about to be offered: its kind and payload. -/
structure Offer where
  kind : NoticeKind
  payload : List Byte
deriving DecidableEq, Repr

/-- Offer a notice, if the mask enables its kind (R158). -/
def State.offer (s : State) (o : Offer) : State :=
  if maskEnables s.commands.config.mask o.kind then s.withUp (s.up.offerNotice s.address o.kind o.payload) else s

/-- Offers of one block, in the order its rule gives. -/
def State.offers (s : State) (os : List Offer) : State := os.foldl State.offer s

/-- Take the head of the `i`-th list. -/
def takeHead {α : Type} : List (List α) → Nat → Option α × List (List α)
  | [], _ => (none, [])
  | [] :: rest, _ => (none, [] :: rest)
  | (x :: xs) :: rest, 0 => (some x, xs :: rest)
  | l :: rest, i + 1 => let r := takeHead rest i; (r.1, l :: r.2)

/-- Offers of several blocks that come together: each block's in its own order, the blocks' order among
each other free (R159). `fuel` bounds the number of choices. -/
def State.offerTogether : Nat → State → List (List Offer) → State
  | 0, s, blocks => s.offers blocks.flatten
  | fuel + 1, s, blocks =>
    match blocks.filter (fun b => !b.isEmpty) with
    | [] => s
    | [one] => s.offers one
    | many =>
      let r := takeHead many (Config.offerPick s.orderings % many.length)
      let s' := s.withOrderings (s.orderings + 1)
      match r.1 with
      | some o => State.offerTogether fuel (s'.offer o) r.2
      | none => State.offerTogether fuel s' r.2

/-- Offers that come together in one step (R159). -/
def State.offerAll (s : State) (blocks : List (List Offer)) : State :=
  State.offerTogether blocks.flatten.length s blocks

/-! ### The down lane (R171) -/

/-- Hand a packet to the down-lane transmitter. -/
def State.handDown (s : State) (p : DownPacket) : State :=
  s.withDown { s.down with waiting := s.down.waiting ++ [p] }

/-- Hand a generated packet over if a condition holds (R106, R119). -/
def State.handDownIf (s : State) (c : Bool) (p : DownPacket) : State := if c then s.handDown p else s

/-- A packet that the receiver drops (R169). -/
def State.dropBad (s : State) : State := s.withBadPackets (count16 s.badPackets)

/-! ### The command queue (R137 to R139) -/

/-- State of the head of the command queue (Table 9-3). -/
inductive HeadState where
  | none | ready | heldCommit | heldJobs
deriving DecidableEq, Repr

/-- The head's state: a staging command is held while commit pending is set (R74), a store command while
the job queue holds 4 jobs (R87). -/
def State.headState (s : State) : HeadState :=
  match s.commands.queue with
  | [] => .none
  | e :: _ =>
    match requestClass e.request with
    | .staging => if s.commitPending then .heldCommit else .ready
    | .store => if Config.jobQueueSize ≤ s.writer.jobs.length then .heldJobs else .ready
    | _ => .ready

/-- The head, if it is due to execute. -/
def State.readyHead (s : State) : Option Entry :=
  if s.headState = .ready then s.commands.queue.head? else none

/-- The head leaves the command queue. -/
def State.popQueue (s : State) : State :=
  s.withCommands { s.commands with queue := s.commands.queue.tail }

/-- A command that is not a store command completes: it leaves the queue, and an addressed one builds its
reply (R138, R140). -/
def State.complete (s : State) (e : Entry) (status : Status) (payload : List Byte) : State :=
  match e.origin with
  | .addressed tag => s.popQueue.replyReserved tag (requestCode e.request) status none payload
  | .broadcast => s.popQueue

end Sys2Proof.Machine
end

