-- ==== Sys2Proof/Machine/Writer.lean ====
section
/-! DEFINITION. The store writer (Chapter 6): window and cursor, jobs, the start of a job (R85, R88), one
pixel of work (R90 to R95), the pace step (R90), and CANCEL's and RESET-PART's effect on jobs (R97, R98,
R100). -/

namespace Sys2Proof.Machine

/-! ### Window and cursor (R83, R84) -/

/-- The last entry of a footprint lies inside the store (R3, R83): base + (height-1)*stride + width - 1 is at
most 262,143. -/
def footprintFits (base stride width height : Nat) : Bool :=
  decide (base + (height - 1) * stride + width ≤ Config.storeEntries)

/-- The footprint rule with the ranges of its fields (R3, R83). -/
def footprintValid (base stride width height : Nat) : Bool :=
  decide (1 ≤ width ∧ width ≤ 2048 ∧ 1 ≤ height ∧ height ≤ 2048 ∧ width ≤ stride ∧ stride ≤ 2048
    ∧ base < Config.storeEntries) && footprintFits base stride width height

/-- A present window is valid (R83). -/
def Window.valid (w : Window) : Bool := footprintValid w.base w.stride w.width w.height

/-- Address of a position of the window (R83). -/
def Window.address (w : Window) (column row : Nat) : Nat := w.base + row * w.stride + column

/-- The positions of the window (R85). -/
def Window.positions (w : Window) : Nat := w.width * w.height

/-- The cursor after one pixel at a position (Table 6-1). -/
def Window.advance (w : Window) (column row : Nat) : Cursor :=
  match w.order with
  | .rowFirst =>
    if column + 1 < w.width then .pos (column + 1) row
    else if row + 1 < w.height then .pos 0 (row + 1)
    else .exhausted
  | .columnFirst =>
    if row + 1 < w.height then .pos column (row + 1)
    else if column + 1 < w.width then .pos (column + 1) 0
    else .exhausted

/-- A cursor lies in a window (R83). -/
def Cursor.within (c : Cursor) (w : Window) : Bool :=
  match c with
  | .pos column row => decide (column < w.width ∧ row < w.height)
  | .exhausted => true

/-- Address of the k-th entry of the footprint in the window's order (R94). -/
def Window.nthAddress (w : Window) (k : Nat) : Nat :=
  match w.order with
  | .rowFirst => w.address (k % w.width) (k / w.width)
  | .columnFirst => w.address (k / w.height) (k % w.height)

/-! ### Starting a job (R85, R88, R93, R95) -/

/-- The failed check of a WINDOW (Table 6-2), if one fails. -/
def windowCheck (p : WindowParams) : Option Nat :=
  let width := p.width.toNat
  let height := p.height.toNat
  let stride := p.stride.toNat
  let base := p.base.toNat
  if width = 0 ∨ 2048 < width ∨ height = 0 ∨ 2048 < height then some 1
  else if stride < width ∨ 2048 < stride then some 2
  else if orderOf p.order = none then some 3
  else if Config.storeEntries ≤ base then some 4
  else if !footprintFits base stride width height then some 5
  else none

/-- The window that a WINDOW which passes its checks sets (R85). -/
def windowOf (p : WindowParams) : Window :=
  ⟨p.base.toNat, p.stride.toNat, p.width.toNat, p.height.toNat, (orderOf p.order).getD .rowFirst⟩

/-- Pixels of a run list. -/
def pixelsOf (runs : List (Byte × Nat)) : Nat := (runs.map (·.2)).sum

/-- The run list a WRITE carries. -/
def runList (runs : List Run) : List (Byte × Nat) := runs.map (fun r => (r.value, r.count.toNat))

/-- Position of the first run whose count is out of range (R88). -/
def firstBadRun (runs : List Run) : Option Nat :=
  runs.findIdx? (fun r => decide (r.count.toNat = 0 ∨ 256 < r.count.toNat))

/-- How a job ends: its status, the cursor of the reply's header, and the payload (Table 6-5, Table 11-9). -/
structure Ending where
  status : Status
  cursor : Option Cursor
  payload : List Byte
deriving DecidableEq, Repr

/-- What starting or advancing a job gives: the job has ended, or it has work left. -/
inductive JobOutcome where
  | ended (e : Ending)
  | goesOn (p : Progress)
deriving DecidableEq, Repr

/-- The payload of a WRITE's reply: written count, discarded count. -/
def writePayload (written discarded : Nat) : List Byte := bytes2 written ++ bytes2 discarded

/-- A job becomes the running job: its checks, and what is settled at once (R85, R88, R90, R93, R95). The
writer is answered with the window and cursor as the start leaves them. That the range check of WRITE and READ
is check number 1 is DEDUCED (log entry 8). -/
def StoreWriter.startJob (w : StoreWriter) : Work → StoreWriter × JobOutcome
  | .window p =>
    match windowCheck p with
    | some n => (w, .ended ⟨.refusedRange, none, [byte1 n]⟩)
    | none =>
      let win := windowOf p
      ({ w with window := some win, cursor := some (.pos 0 0) }, .ended ⟨.done, none, bytes3 win.positions⟩)
  | .write runs =>
    match firstBadRun runs with
    | some i => (w, .ended ⟨.refusedRange, none, [1, byte1 i]⟩)
    | none =>
      match w.window with
      | none => (w, .ended ⟨.refusedNoWindow, none, []⟩)
      | some _ =>
        let left := runList runs
        if w.cursor = some .exhausted ∨ pixelsOf left = 0 then
          (w, .ended ⟨.done, w.cursor, writePayload 0 (pixelsOf left)⟩)
        else (w, .goesOn (.write left 0))
  | .fill value =>
    match w.window with
    | none => (w, .ended ⟨.refusedNoWindow, none, []⟩)
    | some win => ({ w with cursor := some (.pos 0 0) }, .goesOn (.fill value win 0))
  | .read count =>
    if count.toNat = 0 ∨ 240 < count.toNat then (w, .ended ⟨.refusedRange, none, [1]⟩)
    else
      match w.window with
      | none => (w, .ended ⟨.refusedNoWindow, none, []⟩)
      | some _ =>
        if w.cursor = some .exhausted then (w, .ended ⟨.done, w.cursor, []⟩)
        else (w, .goesOn (.read count.toNat []))

/-- Command code of a job (Table 11-6). -/
def workCode : Work → Byte
  | .window _ => 0x10
  | .write _ => 0x11
  | .fill _ => 0x12
  | .read _ => 0x13

/-- Command code of a running job. -/
def progressCode : Progress → Byte
  | .write .. => 0x11
  | .fill .. => 0x12
  | .read .. => 0x13

/-- The reply of a job that has ended (R96). -/
def State.endJob (s : State) (tag : Half) (code : Byte) (e : Ending) : State :=
  s.replyReserved tag code e.status e.cursor e.payload

/-- With no running work, the jobs of the queue start one after another; each that ends at once replies
and the next starts in the same happening (R86, R88, R90). -/
def State.startJobs : List Job → State → State
  | [], s => s.withWriter { s.writer with jobs := [], running := none }
  | j :: rest, s =>
    match ({ s.writer with jobs := rest, running := none } : StoreWriter).startJob j.work with
    | (w, .ended e) => State.startJobs rest ((s.withWriter w).endJob j.tag (workCode j.work) e)
    | (w, .goesOn p) => s.withWriter { w with running := some ⟨j.tag, p⟩ }

/-- The running work has ended: the job at the head of the job queue, if any, starts (R86, R90). -/
def State.startNext (s : State) : State := State.startJobs s.writer.jobs s

/-- A store command is handed to the store writer: the job joins the job queue, and starts at once if the
state is IDLE (R86). -/
def State.handOver (s : State) (tag : Half) (work : Work) : State :=
  let s' := s.popQueue.withWriter { s.writer with jobs := s.writer.jobs ++ [⟨tag, work⟩] }
  if s.clearing = false ∧ s.writer.running = none then s'.startNext else s'

/-! ### One pixel of work (R81, R92 to R95) -/

/-- Take one pixel off the front of a run list. -/
def takePixel (value : Byte) (count : Nat) (rest : List (Byte × Nat)) : List (Byte × Nat) :=
  if count ≤ 1 then rest else (value, count - 1) :: rest

/-- One pixel of the running job: the store, the cursor and the outcome after it. A job whose cursor is
at no position ends (R93, R95); none that runs is there (DESIGN CHOICE, log entry 14). -/
def StoreWriter.pixel (w : StoreWriter) (st : IndexStore) : Progress → IndexStore × Option Cursor × JobOutcome
  | .write left written =>
    match w.window, w.cursor, left with
    | some win, some (.pos column row), (value, count) :: rest =>
      let st' := st.write (win.address column row) value
      let cursor := win.advance column row
      let left' := takePixel value count rest
      if left' = [] ∨ cursor = .exhausted then
        (st', some cursor, .ended ⟨.done, some cursor, writePayload (written + 1) (pixelsOf left')⟩)
      else (st', some cursor, .goesOn (.write left' (written + 1)))
    | _, _, _ => (st, w.cursor, .ended ⟨.done, w.cursor, writePayload written (pixelsOf left)⟩)
  | .fill value win written =>
    let st' := st.write (win.nthAddress written) value
    if win.positions ≤ written + 1 then (st', w.cursor, .ended ⟨.done, none, bytes3 (written + 1)⟩)
    else (st', w.cursor, .goesOn (.fill value win (written + 1)))
  | .read left got =>
    match w.window, w.cursor with
    | some win, some (.pos column row) =>
      let got' := got ++ [st.read (win.address column row)]
      let cursor := win.advance column row
      if left ≤ 1 ∨ cursor = .exhausted then (st, some cursor, .ended ⟨.done, some cursor, got'⟩)
      else (st, some cursor, .goesOn (.read (left - 1) got'))
    | _, _ => (st, w.cursor, .ended ⟨.done, w.cursor, got⟩)

/-- The store writer has work with pixels left: the clear, or a running job (R90). -/
def State.working (s : State) : Bool := s.clearing || s.writer.running.isSome

/-- One pixel of the running work, at a cost of 1 of the allowance. Work that ends with it offers
CLEAR-DONE (R82) or gives its reply (R96), and the next job starts. -/
def State.workPixel (s : State) : State :=
  let w := { s.writer with allowance := s.writer.allowance - 1 }
  if s.clearing then
    let s' := (s.withStore s.store.clearOne).withWriter w
    if s'.clearing then s' else (s'.offer ⟨.clearDone, []⟩).startNext
  else
    match s.writer.running with
    | none => s
    | some r =>
      match w.pixel s.store r.progress with
      | (st, cursor, .goesOn p) =>
        (s.withStore st).withWriter { w with cursor := cursor, running := some ⟨r.tag, p⟩ }
      | (st, cursor, .ended e) =>
        (((s.withStore st).withWriter { w with cursor := cursor, running := none }).endJob r.tag
          (progressCode r.progress) e).startNext

/-- Pixels of work, up to `n`, while there is work (R90). -/
def State.workPixels : Nat → State → State
  | 0, s => s
  | n + 1, s => if s.working then State.workPixels n s.workPixel else s

/-- The window, the cursor and a running FILL's window lie inside the index store (R83, R94). -/
def StoreWriter.inStore (w : StoreWriter) : Bool :=
  (match w.window, w.cursor with
   | some win, some c => win.valid && c.within win
   | some win, none => win.valid
   | none, _ => true)
  && (match w.running with
      | some ⟨_, .fill _ win written⟩ => win.valid && decide (written < win.positions)
      | _ => true)

/-! ### CANCEL and RESET-PART (R97, R98, R100) -/

/-- The CANCELLED reply of a running job (Table 6-5). -/
def cancelledRunning (cursor : Option Cursor) : Progress → Ending
  | .write _ written => ⟨.cancelled, cursor, writePayload written 0⟩
  | .fill _ _ written => ⟨.cancelled, none, bytes3 written⟩
  | .read _ got => ⟨.cancelled, cursor, got⟩

/-- The CANCELLED reply of a waiting job: zero counts, or an empty list for a READ; no cursor (Table 6-5). -/
def cancelledWaiting : Work → Ending
  | .window _ => ⟨.cancelled, none, bytes3 0⟩
  | .write _ => ⟨.cancelled, none, writePayload 0 0⟩
  | .fill _ => ⟨.cancelled, none, bytes3 0⟩
  | .read _ => ⟨.cancelled, none, []⟩

/-- The replies of the waiting jobs, oldest first (R98). -/
def State.cancelWaiting (s : State) (jobs : List Job) : State :=
  jobs.foldl (fun s j => s.endJob j.tag (workCode j.work) (cancelledWaiting j.work)) s

/-- CANCEL's effect on the store writer: the running job stops, the waiting jobs are removed, and each
gives its reply (R97, R98). The clear, the window, the cursor and the allowance stay. -/
def State.cancelJobs (s : State) : State :=
  let s' := s.withWriter { s.writer with jobs := [], running := none }
  let s'' := match s.writer.running with
    | some r => s'.endJob r.tag (progressCode r.progress) (cancelledRunning s.writer.cursor r.progress)
    | none => s'
  s''.cancelWaiting s.writer.jobs

/-- RESET-PART's effect on the store writer: no jobs, no window, no cursor; the allowance stays (R100). -/
def StoreWriter.resetPart (w : StoreWriter) : StoreWriter := ⟨none, none, [], none, w.allowance⟩

/-! ### What STATUS reports (R86) -/

/-- State of the store writer: 0 IDLE, 1 RUNNING, 2 CLEARING (11.5). -/
def State.writerStateByte (s : State) : Byte :=
  if s.clearing then 2 else if s.writer.running.isSome then 1 else 0

/-- Software jobs waiting and running (R86). -/
def StoreWriter.jobCount (w : StoreWriter) : Nat :=
  w.jobs.length + (if w.running.isSome then 1 else 0)

end Sys2Proof.Machine
end

