-- ==== Sys2Proof/Machine/Compose.lean ====
section
/-! DEFINITION. The compositor (Chapter 2) and the scroll map (R43): candidates, cost, admission, lookup,
blending, the overrun record, and the lines it composes or passes. -/

namespace Sys2Proof.Machine

/-! ### Validity of a pane record (R6) -/

/-- The scroll descriptor fits the record (R6, R41, R42). -/
def PaneRec.scrollValid (p : PaneRec) : Bool :=
  let d := p.scroll
  match d.axis with
  | .none => decide (d = Scroll.still)
  | .vertical => decide (1 ≤ d.band ∧ d.lead + d.band + d.trail = p.height ∧ -8 ≤ d.rate ∧ d.rate ≤ 8)
  | .horizontal => decide (1 ≤ d.band ∧ d.lead + d.band + d.trail = p.width ∧ -8 ≤ d.rate ∧ d.rate ≤ 8)

/-- Every field lies within the values of Table 1-1 and the record satisfies the footprint rule (R6). -/
def PaneRec.valid (p : PaneRec) : Bool :=
  decide (p.screenX ≤ 2047 ∧ p.screenY ≤ 2047 ∧ (p.hscale = 1 ∨ p.hscale = 2) ∧ (p.vscale = 1 ∨ p.vscale = 2)
    ∧ p.opacity ≤ 16)
  && footprintValid p.base p.stride p.width p.height && p.scrollValid

/-- A valid shadow record: a present requested offset is less than band (R6). -/
def ShadowPane.valid (p : ShadowPane) : Bool :=
  p.fields.valid && (match p.requested with
    | none => true
    | some o => decide (p.fields.scroll.axis ≠ .none ∧ o < p.fields.scroll.band))

/-- A valid active record: the current offset is less than band, or 0 with axis NONE (R6). -/
def ActivePane.valid (p : ActivePane) : Bool :=
  p.fields.valid && (if p.fields.scroll.axis = .none then p.offset = 0 else decide (p.offset < p.fields.scroll.band))

/-- All eight active records are valid (R6). -/
def PaneTable.activeValid (t : PaneTable) : Bool := paneNumbers.all (fun i => t.active[i].valid)

/-! ### Scroll map (R43) -/

/-- The memory index of a display index. -/
def scrollMap (d : Scroll) (offset index : Nat) : Nat :=
  if index < d.lead then index
  else if index < d.lead + d.band then d.lead + (index - d.lead + offset) % d.band
  else index

/-! ### Candidates, rows and cost (R22 to R25) -/

/-- The pane covers line y and is ON (R22). -/
def PaneRec.candidate (p : PaneRec) (y : Nat) : Bool :=
  p.on && decide (p.screenY ≤ y ∧ y < p.screenY + p.height * p.vscale)

/-- The memory row of line y (R23). -/
def ActivePane.memoryRow (p : ActivePane) (y : Nat) : Nat :=
  let r := (y - p.fields.screenY) / p.fields.vscale
  if p.fields.scroll.axis = .vertical then scrollMap p.fields.scroll p.offset r else r

/-- The memory column of screen column x (R31). -/
def ActivePane.memoryColumn (p : ActivePane) (x : Nat) : Nat :=
  let d := (x - p.fields.screenX) / p.fields.hscale
  if p.fields.scroll.axis = .horizontal then scrollMap p.fields.scroll p.offset d else d

/-- The cost of a candidate in a frame of width `w`: its store columns with a pixel in columns 0..w-1 (R24). -/
def PaneRec.cost (p : PaneRec) (w : Nat) : Nat :=
  if w ≤ p.screenX then 0 else min p.width ((w - p.screenX + p.hscale - 1) / p.hscale)

/-! ### Admission (R26) -/

/-- One pane considered: the budget left, the panes admitted and the panes skipped so far. -/
def considerPane (panes : Vector ActivePane 8) (y w : Nat) (acc : Nat × Admission) (i : Fin 8) : Nat × Admission :=
  let p := panes[i].fields
  let c := p.cost w
  if p.candidate y = false ∨ c = 0 then acc
  else if c ≤ acc.1 then (acc.1 - c, { acc.2 with admitted := acc.2.admitted ||| paneFlag i })
  else (acc.1, { acc.2 with skipped := acc.2.skipped ||| paneFlag i })

/-- Admission of line y in a frame of width `w`, from pane 7 downwards (R26, R27). -/
def admissionOf (panes : Vector ActivePane 8) (y w : Nat) : Admission :=
  (paneNumbers.reverse.foldl (considerPane panes y w) (Config.lineBudget, ⟨0, 0⟩)).2

/-- The overrun record after a composed line (R28). -/
def Overrun.record (o : Overrun) (y : Nat) (skipped : PaneSet) : Overrun :=
  if skipped = 0 then o
  else { skipped := o.skipped ||| skipped
         firstLine := some (o.firstLine.getD y)
         paneLines := min (o.paneLines + paneCount skipped) Config.counterMax }

/-! ### Lookup and blending (R31 to R34) -/

/-- The entry a pane contributes at screen column x of line y, if any (R31). -/
def contribution (p : ActivePane) (palette : Vector PaletteEntry 256) (store : IndexStore) (x y : Nat) :
    Option PaletteEntry :=
  if x < p.fields.screenX ∨ p.fields.screenX + p.fields.width * p.fields.hscale ≤ x then none
  else
    let i := store.read (p.fields.base + p.memoryRow y * p.fields.stride + p.memoryColumn x)
    if p.fields.key = some i then none else some palette[i.toFin]

/-- Effective opacity (R33). -/
def effectiveOpacity (entry pane fade : Nat) : Nat := (entry * pane * fade + 128) / 256

/-- One channel blended (R34). -/
def blendChannel (e overlay under : Nat) : Nat := (e * overlay + (16 - e) * under + 8) / 16

/-- An entry blended over a pixel, channel by channel (R34). -/
def blend (entry : PaletteEntry) (pane fade : Nat) (under : Pixel) : Pixel :=
  let e := effectiveOpacity entry.opacity.toNat pane fade
  ⟨byte1 (blendChannel e entry.red.toNat under.red.toNat),
   byte1 (blendChannel e entry.green.toNat under.green.toNat),
   byte1 (blendChannel e entry.blue.toNat under.blue.toNat)⟩

/-- What the compositor reads for a line, as it stands at the line's happening (R20). -/
structure View where
  panes : Vector ActivePane 8
  palette : Vector PaletteEntry 256
  fade : Nat
  store : IndexStore
deriving DecidableEq, Repr

/-- One pane applied at a pixel (R32). -/
def View.applyPane (v : View) (x y : Nat) (under : Pixel) (i : Fin 8) : Pixel :=
  match contribution v.panes[i] v.palette v.store x y with
  | some entry => blend entry v.panes[i].fields.opacity v.fade under
  | none => under

/-- The pixel at column x: the admitted panes applied from the lowest number up (R32). -/
def View.composePixel (v : View) (admitted : PaneSet) (x y : Nat) (start : Pixel) : Pixel :=
  (paneNumbers.filter (paneIn admitted)).foldl (v.applyPane x y) start

/-- The pixels from column x on: composed below column `w`, unchanged from there on (R21, R36). -/
def View.composeFrom (v : View) (admitted : PaneSet) (y w : Nat) : Nat → List Pixel → List Pixel
  | _, [] => []
  | x, p :: rest =>
    (if x < w then v.composePixel admitted x y p else p) :: v.composeFrom admitted y w (x + 1) rest

/-! ### The compositor at an active-line happening (R19) -/

/-- The compositor's view (R20). -/
def State.view (s : State) : View := ⟨s.panes.active, s.palette.active, s.fade.level, s.store⟩

/-- The frame's lines are composed and the index is below H: the width of the frame (R19, R37, R38, R125). -/
def FrameRecord.composedWidth (f : FrameRecord) (y : Nat) : Option Nat :=
  match f.kind, f.width, f.lines with
  | .passThrough, _, _ => none
  | _, some w, some h => if y < h then some w else none
  | _, _, _ => none

/-- The admission result formed and the overrun record after the line; a passed line changes neither (R19,
R27, R28). -/
def State.composeState (s : State) (y : Nat) : State :=
  match s.tracker.frame.composedWidth y with
  | some w =>
    let a := admissionOf s.panes.active y w
    s.withCompositor ⟨a, s.compositor.overrun.record y a.skipped⟩
  | none => s

/-- The pixels of line y as they leave the part (R19, R21, R32, R35). -/
def State.composedLine (s : State) (y : Nat) (pixels : List Pixel) : List Pixel :=
  match s.tracker.frame.composedWidth y with
  | some w => s.view.composeFrom (admissionOf s.panes.active y w).admitted y w 0 pixels
  | none => pixels

/-- The compositor would read from an active record that is not valid (the fault `outsideStore`). -/
def State.composesInvalid (s : State) (y : Nat) : Bool :=
  (s.tracker.frame.composedWidth y).isSome && !s.panes.activeValid

end Sys2Proof.Machine
end

