-- ==== Sys2Proof/Machine/Frames.lean ====
section
/-! DEFINITION. The happenings of the video tracker and what the blocks do at them: frame start (the swap
of R71, the offsets of R49 and R50, the fade step of R63, the records of R29 and R103), frame end (R30,
R120), line happenings (R89, R125 to R127), and the beginning of internal frames (R118). -/

namespace Sys2Proof.Machine

/-! ### Current offset at a frame start (R49, R50) -/

/-- A commit sets the offset: the geometry changes or an offset is requested (Table 3-6). -/
def commitSetsOffset (sh : ShadowPane) (a : ActivePane) : Bool :=
  !sameGeometry sh.fields.scroll a.fields.scroll || sh.requested.isSome

/-- The active record after a performed commit, before auto-scroll (R71, Table 3-6). -/
def commitPane (sh : ShadowPane) (a : ActivePane) : ActivePane :=
  { fields := sh.fields
    offset := match sh.requested with
      | some o => o
      | none => if sameGeometry sh.fields.scroll a.fields.scroll then a.offset else 0 }

/-- Auto-scroll of one pane (R50). -/
def autoScroll (a : ActivePane) : ActivePane :=
  let d := a.fields.scroll
  if a.fields.on && decide (d.rate ≠ 0 ∧ d.axis ≠ .none) then
    { a with offset := (((a.offset : Int) + d.rate) % (d.band : Int)).toNat }
  else a

/-- An active pane through a frame start, with or without a commit (R49, R50). -/
def startPane (commit : Bool) (sh : ShadowPane) (a : ActivePane) : ActivePane :=
  if commit then
    if commitSetsOffset sh a then commitPane sh a else autoScroll (commitPane sh a)
  else autoScroll a

/-- The pane table through a frame start: a commit makes every requested offset absent (R8, R71). -/
def PaneTable.frameStart (t : PaneTable) (commit : Bool) : PaneTable :=
  { shadow := if commit then Vector.ofFn (fun i : Fin 8 => { t.shadow[i] with requested := none }) else t.shadow
    active := Vector.ofFn (fun i : Fin 8 => startPane commit t.shadow[i] t.active[i]) }

/-- The palette through a performed commit (R56). -/
def PaletteTable.commit (p : PaletteTable) : PaletteTable :=
  { p with active := p.shadow, activeBackground := p.shadowBackground }

/-- The marker table through a performed commit (R123). -/
def MarkerUnit.commit (m : MarkerUnit) : MarkerUnit := { m with active := m.shadow }

/-! ### The fade step (R63, R64) -/

/-- The level of a ramp at its k-th frame start: S + trunc((T - S)·k / n) (R63). -/
def rampLevel (start target k n : Nat) : Nat :=
  ((start : Int) + Int.tdiv (((target : Int) - start) * k) n).toNat

/-- The step of a frame start; with n = 0 the level goes to the target and frames done stays (R63). -/
def FadeEngine.step (f : FadeEngine) : FadeEngine :=
  if f.ramp then
    if f.count = 0 then { f with level := f.target, ramp := false }
    else { f with level := rampLevel f.start f.target (f.done + 1) f.count, done := f.done + 1,
                  ramp := decide (f.done + 1 < f.count) }
  else f

/-- The FADE-DONE offer of a frame start at which the ramp ends (R64). -/
def FadeEngine.doneOffers (f : FadeEngine) : List Offer :=
  if f.ramp && !f.step.ramp then [⟨.fadeDone, [byte1 f.step.level]⟩] else []

/-! ### Frame start (R111) -/

/-- The COMMITTED offer of a frame start that performs a commit, with the number of the frame it opens (R73). -/
def State.committedOffers (s : State) : List Offer :=
  if s.commitPending then [⟨.committed, bytes2 s.tracker.frame.number.toNat⟩] else []

/-- The offers of a frame start, block by block: the commit logic's and the fade engine's. -/
def State.startOffers (s : State) : List (List Offer) := [s.committedOffers, s.fade.doneOffers]

/-- The frame start, with the current frame record already describing the new frame: the overrun and
frame-fault records and the blank count are reset, the commit is performed if it is pending, offsets
advance and the fade steps (R29, R49, R50, R63, R71, R102, R103). -/
def State.frameStart (s : State) : State :=
  { s with
    tracker := { s.tracker with faults := FrameFaults.zero, blankCount := 0 }
    panes := s.panes.frameStart s.commitPending
    palette := if s.commitPending then s.palette.commit else s.palette
    markers := if s.commitPending then s.markers.commit else s.markers
    fade := s.fade.step
    commitPending := false
    compositor := { s.compositor with overrun := Overrun.empty } }

/-! ### Frame end (R111) -/

/-- The FRAME-FAULTS offer of a frame end (R120). -/
def State.faultOffers (s : State) : List Offer :=
  let f := s.tracker.faults
  if f = FrameFaults.zero then []
  else [⟨.frameFaults, bytes2 s.tracker.frame.number.toNat ++ bytes2 f.width ++ bytes2 f.excess ++ bytes2 f.short
    ++ [flagByte f.cut] ++ bytes2 f.strays⟩]

/-- The OVERRUN offer of a frame end (R30). -/
def State.overrunOffers (s : State) : List Offer :=
  let o := s.compositor.overrun
  if o.skipped = 0 then []
  else [⟨.overrun, bytes2 s.tracker.frame.number.toNat ++ [o.skipped] ++ bytes2 (o.firstLine.getD 0)
    ++ bytes2 o.paneLines⟩]

/-- What short becomes at a frame end: H minus the lines taken for a LOCKED frame that is short (R103). -/
def FrameRecord.shortBy (f : FrameRecord) (short : Nat) : Nat :=
  match f.kind, f.lines with
  | .locked, some h => if f.linesTaken < h then h - f.linesTaken else short
  | _, _ => short

/-- Record short at the end of the frame (R103, R105, R109, R115). -/
def State.recordShort (s : State) : State :=
  s.withTracker { s.tracker with faults :=
    { s.tracker.faults with short := s.tracker.frame.shortBy s.tracker.faults.short } }

/-- A locked frame is cut: short, the cut flag, frames-cut, MARK low (R103, R105, R115, R128). -/
def State.cutFrame (s : State) : State :=
  let s' := s.recordShort
  (s'.withTracker { s'.tracker with faults := { s'.tracker.faults with cut := true },
                                    framesCut := count16 s'.tracker.framesCut }).withMarkers
    { s'.markers with mark := false }

/-! ### Line happenings (R112) -/

/-- The active slots that fire on line y, as a test on the slot number (R125). -/
def State.fires (s : State) (y : Nat) (i : Fin 4) : Bool :=
  (s.tracker.frame.composedWidth y).isSome
    && decide (s.markers.active[i].action ≠ .off ∧ s.markers.active[i].line = y)

/-- The four slot numbers, lowest first. -/
def slotNumbers : List (Fin 4) := [0, 1, 2, 3]

/-- The action drives the pin. -/
def MarkerAction.pulses : MarkerAction → Bool
  | .pulse | .both => true
  | .off | .notice => false

/-- The action offers a notice. -/
def MarkerAction.notifies : MarkerAction → Bool
  | .notice | .both => true
  | .off | .pulse => false

/-- The level of MARK from line y to the next line happening (R127). -/
def State.markLevel (s : State) (y : Nat) : Bool :=
  slotNumbers.any (fun i => s.fires y i && s.markers.active[i].action.pulses)

/-- The MARKER offers of line y, in increasing slot number (R126). -/
def State.markerOffers (s : State) (y : Nat) : List Offer :=
  (slotNumbers.filter (fun i => s.fires y i && s.markers.active[i].action.notifies)).map
    (fun i => ⟨.marker, byte1 i.val :: bytes2 s.tracker.frame.number.toNat ++ bytes2 y⟩)

/-- The reactions to the active-line happening of index y: the compositor's records, MARK and the MARKER
offers, and the allowance (R19, R89, R126, R127). -/
def State.activeLine (s : State) (y : Nat) : State :=
  let s' := s.composeState y
  let s'' := (s'.withMarkers { s'.markers with mark := s.markLevel y }).withWriter
    { s'.writer with allowance := Config.activeAllowance }
  s''.offers (s.markerOffers y)

/-- The reactions to a blank-line happening: MARK low and the larger allowance (R89, R127). -/
def State.blankLine (s : State) : State :=
  (s.withMarkers { s.markers with mark := false }).withWriter
    { s.writer with allowance := Config.blankAllowance }

/-! ### Internal frames (R118, R119) -/

/-- The frame record of the internal frame that follows (R113, R118). -/
def Tracker.internalRecord (t : Tracker) : FrameRecord :=
  { number := t.frame.number + 1, kind := .internal, width := some t.timing.width, lines := some t.timing.lines,
    linesTaken := 0, openedFrom := none, blanksBefore := 0, openTime := none, periodBase := none }

/-- The tracker as an internal frame begins at a time: the record of the new frame, and the generator with
the timing record as read (R118). The tracker is in FREE-RUN, its loss timer stopped and the previous open
time absent (R114, R115). -/
def Tracker.beginInternal (t : Tracker) (time : Nat) : Tracker :=
  { t with
    state := .freeRun
    frame := t.internalRecord
    generator := some ⟨time, t.timing.blanks, t.timing.period, 0⟩
    lossStart := none
    prevOpen := none }

/-- The FRAME-OPEN of the current frame record (R119). -/
def State.openPacket (s : State) : DownPacket :=
  .frameOpen s.tracker.frame.number (BitVec.ofNat 16 (s.tracker.frame.width.getD 0))
    (BitVec.ofNat 16 (s.tracker.frame.lines.getD 0))

/-- An internal frame begins: `ending` are the offers of the tracker and of the compositor that come before
in the same step (R111, R115, R118, R119). -/
def State.beginInternal (s : State) (time : Nat) (ending : List (List Offer)) : State :=
  let s1 := s.withTracker (s.tracker.beginInternal time)
  let s2 := s1.frameStart.handDownIf s.commands.config.freeRun s1.openPacket
  s2.offerAll (ending ++ s1.startOffers)

/-! ### Loss of video (R114, R115) -/

/-- The loss timer has run the loss interval at a time (R114). -/
def State.lossDue (s : State) (time : Nat) : Bool :=
  match s.tracker.lossStart with
  | some t0 => decide (t0 + s.commands.config.lossInterval * 1000 ≤ time)
  | none => false

/-- The input is lost: an open frame is truncated, VIDEO-LOST is offered with the number of the first
internal frame, and that frame begins (R115). -/
def State.loseVideo (s : State) (time : Nat) : State :=
  let lost : Offer := ⟨.videoLost, bytes2 (s.tracker.frame.number + 1).toNat⟩
  if s.tracker.state = .inFrame then
    let s1 := s.cutFrame
    (s1.handDown (.frameClose s.tracker.frame.number)).beginInternal time
      [s1.faultOffers ++ [lost], s1.overrunOffers]
  else s.beginInternal time [[lost]]

end Sys2Proof.Machine
end

