-- ==== Sys2Proof/Machine/Video.lean ====
section
/-! DEFINITION. The video steps: FRAME_OPEN, LINE, BLANK, FRAME_CLOSE (R104 to R110, R117),
LOSS_TIMER_EXPIRY (R115), INTERNAL_ACTIVE_LINE and INTERNAL_BLANKING_LINE (R118, R119). -/

namespace Sys2Proof.Machine

/-! ### FRAME_OPEN (R104 to R106) -/

/-- The frame record of a FRAME-OPEN taken in a tracker state (R102, R104 to R106): W and H in 1..2048 give
a LOCKED frame, else the frame is PASS-THROUGH and both are absent. -/
def Tracker.openRecord (t : Tracker) (time : Nat) (number width lines : Half) : FrameRecord :=
  let w := width.toNat
  let h := lines.toNat
  let good := decide (1 ≤ w ∧ w ≤ 2048 ∧ 1 ≤ h ∧ h ≤ 2048)
  { number := number
    kind := if good then .locked else .passThrough
    width := if good then some w else none
    lines := if good then some h else none
    linesTaken := 0
    openedFrom := some t.state
    blanksBefore := if t.state = .betweenFrames then t.blankCount else 0
    openTime := some time
    periodBase := t.prevOpen }

/-- The tracker as a FRAME-OPEN is taken: the new record, IN-FRAME, the loss timer restarted, and the
previous open time replaced (R102, R104, R114). -/
def Tracker.takeOpen (t : Tracker) (time : Nat) (number width lines : Half) : Tracker :=
  { t with
    state := .inFrame
    frame := t.openRecord time number width lines
    generator := none
    lossStart := some time
    prevOpen := some time }

/-- A FRAME-OPEN is taken and forwarded; `ending` are the tracker's and the compositor's offers of a frame
end that comes before in the same step, and of VIDEO-LOCKED (R104). -/
def State.takeFrame (s : State) (time : Nat) (number width lines : Half) (ending : List (List Offer)) : State :=
  let s1 := s.withTracker (s.tracker.takeOpen time number width lines)
  (s1.frameStart.handDown (.frameOpen number width lines)).offerAll (ending ++ s1.startOffers)

/-- FRAME-OPEN in BETWEEN-FRAMES (R104). -/
def State.openBetween (s : State) (time : Nat) (number width lines : Half) : State :=
  s.takeFrame time number width lines []

/-- FRAME-OPEN in IN-FRAME: the open frame is closed implicitly, with a generated FRAME-CLOSE (R105). -/
def State.openImplicit (s : State) (time : Nat) (number width lines : Half) : State :=
  let s1 := s.cutFrame
  (s1.handDown (.frameClose s.tracker.frame.number)).takeFrame time number width lines
    [s1.faultOffers, s1.overrunOffers]

/-- FRAME-OPEN in FREE-RUN: the internal frame is truncated, with a FRAME-CLOSE if free-run output is
enabled, and VIDEO-LOCKED is offered (R106); MARK goes low (R128). -/
def State.openReacquire (s : State) (time : Nat) (number width lines : Half) : State :=
  let s1 := s.withMarkers { s.markers with mark := false }
  let s2 := s1.handDownIf s.commands.config.freeRun (.frameClose s.tracker.frame.number)
  s2.takeFrame time number width lines
    [s.faultOffers ++ [⟨.videoLocked, bytes2 number.toNat⟩], s.overrunOffers]

/-- FRAME_OPEN. -/
def execFrameOpen (time : Nat) (number width lines : Half) (s : State) : Host.Outcome State Fault Refusal :=
  match s.tracker.state with
  | .betweenFrames => .next (s.openBetween time number width lines)
  | .inFrame => .next (s.openImplicit time number width lines)
  | .freeRun => .next (s.openReacquire time number width lines)

/-! ### Strays (R108, R110) -/

/-- A stray video packet: the stray counter, and strays of the frame-fault record while a frame is in
progress (R103, R108, R110). -/
def Tracker.stray (t : Tracker) : Tracker :=
  { t with
    strays := count16 t.strays
    faults := if t.state = .betweenFrames then t.faults else { t.faults with strays := count16 t.faults.strays } }

/-- A stray is discarded (R110). -/
def State.discardStray (s : State) : State := s.withTracker s.tracker.stray

/-! ### LINE (R107) -/

/-- The faults that a LINE of n pixels with index y counts (R103, R107). -/
def FrameRecord.lineFaults (f : FrameRecord) (y n : Nat) (faults : FrameFaults) : FrameFaults :=
  match f.kind, f.width, f.lines with
  | .locked, some w, some h =>
    if h ≤ y then { faults with excess := count16 faults.excess }
    else if n ≠ w then { faults with width := count16 faults.width }
    else faults
  | _, _, _ => faults

/-- The tracker as a LINE is taken: lines taken and the faults (R107). -/
def Tracker.takeLine (t : Tracker) (n : Nat) : Tracker :=
  { t with
    frame := { t.frame with linesTaken := count16 t.frame.linesTaken }
    faults := t.frame.lineFaults t.frame.linesTaken n t.faults }

/-- A LINE taken in IN-FRAME: the happening with its arrival index, and the line composed or passed (R107). -/
def State.takeLine (s : State) (pixels : List Pixel) : State :=
  let y := s.tracker.frame.linesTaken
  ((s.withTracker (s.tracker.takeLine pixels.length)).activeLine y).handDown (.line (s.composedLine y pixels))

/-- LINE. More than 2,048 pixels make no good LINE: such a packet is dropped (R169; DESIGN CHOICE, log
entry 11). -/
def execLine (pixels : List Pixel) (s : State) : Host.Outcome State Fault Refusal :=
  if 2048 < pixels.length then .next s.dropBad
  else if s.tracker.state = .inFrame then
    if s.composesInvalid s.tracker.frame.linesTaken then .fault .outsideStore
    else .next (s.takeLine pixels)
  else .next s.discardStray

/-! ### BLANK (R108) -/

/-- BLANK: forwarded with a blank-line happening in a locked state, where it counts toward B in
BETWEEN-FRAMES and as a stray in IN-FRAME; discarded in FREE-RUN. -/
def execBlank (s : State) : Host.Outcome State Fault Refusal :=
  match s.tracker.state with
  | .betweenFrames =>
    .next ((s.withTracker { s.tracker with blankCount := count16 s.tracker.blankCount }).blankLine.handDown .blank)
  | .inFrame => .next (s.discardStray.blankLine.handDown .blank)
  | .freeRun => .next s.discardStray

/-! ### FRAME_CLOSE (R109, R117) -/

/-- The measured period of a frame that may teach the timing record (R117). -/
def FrameRecord.measuredPeriod (f : FrameRecord) : Option Nat :=
  match f.openTime, f.periodBase with
  | some t, some t0 => if 4000 ≤ t - t0 ∧ t - t0 ≤ 250000 then some (t - t0) else none
  | _, _ => none

/-- The timing record after the frame end of a frame ended by FRAME-CLOSE (R117). -/
def Tracker.learn (t : Tracker) : Timing :=
  match t.frame.width, t.frame.lines, t.frame.measuredPeriod with
  | some w, some h, some period =>
    if t.frame.kind = .locked ∧ t.frame.openedFrom = some .betweenFrames ∧ t.frame.linesTaken = h
        ∧ t.faults.width = 0 ∧ t.frame.blanksBefore ≤ 1023 then
      ⟨w, h, t.frame.blanksBefore, period⟩
    else t.timing
  | _, _, _ => t.timing

/-- A FRAME-CLOSE taken in IN-FRAME ends the frame and is forwarded with the number it carries (R109). -/
def State.closeFrame (s : State) (number : Half) : State :=
  let s1 := s.recordShort
  let s2 := s1.withTracker { s1.tracker with timing := s1.tracker.learn, state := .betweenFrames }
  (s2.handDown (.frameClose number)).offerAll [s1.faultOffers, s1.overrunOffers]

/-- FRAME_CLOSE. -/
def execFrameClose (number : Half) (s : State) : Host.Outcome State Fault Refusal :=
  if s.tracker.state = .inFrame then .next (s.closeFrame number) else .next s.discardStray

/-! ### LOSS_TIMER_EXPIRY (R114, R115) -/

/-- LOSS_TIMER_EXPIRY: taken when the timer has run the loss interval. -/
def execLossTimerExpiry (time : Nat) (s : State) : Host.Outcome State Fault Refusal :=
  if s.lossDue time then .next (s.loseVideo time) else .next s

/-! ### Internal lines (R118, R119) -/

/-- The slot in progress has ended by a time: slot k of n ends k + 1 line periods of P / n after the frame
start, counted without rounding (R118). -/
def Generator.slotEnded (g : Generator) (lines time : Nat) : Bool :=
  decide (g.start * (lines + g.blanks) + (g.slot + 1) * g.period ≤ time * (lines + g.blanks))

/-- The end of a slot: the count of slots, and after the last one the internal frame's frame end and the
next internal frame's start, at the instant the frame's period ends (R118). -/
def State.endSlot (s : State) (g : Generator) (lines : Nat) : State :=
  if lines + g.blanks ≤ g.slot + 1 then
    (s.handDownIf s.commands.config.freeRun (.frameClose s.tracker.frame.number)).beginInternal
      (g.start + g.period) [s.faultOffers, s.overrunOffers]
  else s.withTracker { s.tracker with generator := some { g with slot := g.slot + 1 } }

/-- The internal active line at position `g.slot`: composed over the active background, and handed over as a
LINE when free-run output is enabled (R35, R118, R119). -/
def State.internalLine (s : State) (g : Generator) (lines : Nat) : State :=
  let y := g.slot
  let pixels := s.composedLine y (List.replicate (s.tracker.frame.width.getD 0) s.palette.activeBackground)
  let s1 := s.withTracker { s.tracker with
    frame := { s.tracker.frame with linesTaken := count16 s.tracker.frame.linesTaken } }
  ((s1.activeLine y).handDownIf s.commands.config.freeRun (.line pixels)).endSlot g lines

/-- INTERNAL_ACTIVE_LINE: taken at the end of an active slot. -/
def execInternalActiveLine (time : Nat) (s : State) : Host.Outcome State Fault Refusal :=
  match s.tracker.generator with
  | some g =>
    let lines := s.tracker.frame.lines.getD 0
    if g.slot < lines ∧ g.slotEnded lines time = true then
      if s.composesInvalid g.slot then .fault .outsideStore else .next (s.internalLine g lines)
    else .next s
  | none => .next s

/-- The internal blanking line of a slot (R118, R119). -/
def State.internalBlank (s : State) (g : Generator) (lines : Nat) : State :=
  (s.blankLine.handDownIf s.commands.config.freeRun .blank).endSlot g lines

/-- INTERNAL_BLANKING_LINE: taken at the end of a blanking slot. -/
def execInternalBlankingLine (time : Nat) (s : State) : Host.Outcome State Fault Refusal :=
  match s.tracker.generator with
  | some g =>
    let lines := s.tracker.frame.lines.getD 0
    if lines ≤ g.slot ∧ g.slot < lines + g.blanks ∧ g.slotEnded lines time = true then
      .next (s.internalBlank g lines)
    else .next s
  | none => .next s

end Sys2Proof.Machine
end

