-- ==== Sys2Proof/Machine/CommandUnit.lean ====
section
/-! DEFINITION. The step COMMAND: classification and forwarding (R130, R170, R173), the arrival checks (R131
to R136), and the urgent commands STATUS (R145), CANCEL (R148), RESET-PART (R149 and the reset rules of the
chapters) and ENUMERATE (R174). -/

namespace Sys2Proof.Machine

/-! ### STATUS (R145) -/

/-- The contents of a STATUS DONE reply (Table 9-6, Table 11-9). -/
def State.statusPayload (s : State) : List Byte :=
  [byte1 s.address, trackerByte s.tracker.state] ++ bytes2 s.tracker.frame.number.toNat
    ++ bytes2 s.tracker.frame.linesTaken
    ++ [flagByte s.commitPending, byte1 s.fade.level, byte1 s.fade.target, s.writerStateByte,
        byte1 s.writer.jobCount, byte1 s.commands.queue.length, byte1 s.up.outbox.length, byte1 s.up.sendCredits]
    ++ bytes2 s.badPackets ++ bytes2 s.tracker.strays ++ bytes2 s.tracker.framesCut ++ bytes2 s.commands.drops
    ++ bytes2 s.up.upDrops ++ bytes2 s.up.relayOverflow

/-- The six counters set to 0 (R145, R146). -/
def State.clearCounters (s : State) : State :=
  ((((s.withBadPackets 0).withTracker { s.tracker with strays := 0, framesCut := 0 }).withCommands
    { s.commands with drops := 0 }).withUp { s.up with upDrops := 0, relayOverflow := 0 })

/-- STATUS: the items are read whole, the counters are cleared after that if the flag asks for it, and the
unreserved reply follows (R145). -/
def State.takeStatus (s : State) (tag : Half) (flag : Option Byte) : State :=
  match flag with
  | none => s.replyUnreserved tag 0x30 .done s.statusPayload
  | some f =>
    if f = 0 then s.replyUnreserved tag 0x30 .done s.statusPayload
    else if f = 1 then s.clearCounters.replyUnreserved tag 0x30 .done s.statusPayload
    else s.replyUnreserved tag 0x30 .refusedRange [1]

/-! ### CANCEL (R148) -/

/-- CANCEL: the jobs' replies first, then CANCEL's own, with the stopped flag and the removed count. -/
def State.takeCancel (s : State) (tag : Half) : State :=
  s.cancelJobs.replyUnreserved tag 0x31 .done
    [flagByte s.writer.running.isSome, byte1 s.writer.jobs.length]

/-! ### RESET-PART (R149) -/

/-- The command unit after RESET-PART (R149). -/
def CommandUnit.resetPart : CommandUnit := ⟨[], [], Configuration.default, 0⟩

/-- The up-lane transmitter after RESET-PART (R165): outbox, reservation count and lost count; the rest is
kept. -/
def UpLane.resetPart (u : UpLane) : UpLane := { u with outbox := [], reserved := 0, lost := 0 }

/-- RESET-PART's effect on every block (R18, R53, R65, R79, R100, R121, R129, R149, R165). -/
def State.resetPart (s : State) : State :=
  { s with
    panes := PaneTable.default
    fade := FadeEngine.default
    commitPending := false
    writer := s.writer.resetPart
    markers := MarkerUnit.default
    commands := CommandUnit.resetPart
    up := s.up.resetPart }

/-- The loss interval has changed: the running timer is compared with it (R114), and expires if it has
already run so long (R115). That the command's own effect, reply and forwarding come first is DEDUCED (log entry 9). -/
def State.compareLossTimer (s : State) (time : Nat) : State :=
  if s.lossDue time then s.loseVideo time else s

/-! ### ENUMERATE and IDENTIFY (R147, R174) -/

/-- The content of an IDENTIFY reply with an address (R147, Table 11-9). -/
def identity (address : Nat) : List Byte :=
  byte1 Config.vendorCode :: bytes2 Config.partCode ++ [byte1 Config.revision] ++ bytes3 Config.storeEntries
    ++ [8, 4, byte1 address]

/-- ENUMERATE with parameter `a` (R174). -/
def State.takeEnumerate (s : State) (tag : Half) (a : Byte) : State :=
  if 1 ≤ a.toNat ∧ a.toNat ≤ 30 then
    (s.withAddress a.toNat).replyUnreserved tag 0x33 .done (identity a.toNat)
  else if a.toNat = 31 then
    (s.withAddress 0).replyUnreserved tag 0x33 .chainFull (identity 0)
  else s

/-- The parameter an ENUMERATE is forwarded with (R174). -/
def forwardedParameter (a : Byte) : Byte := if 1 ≤ a.toNat ∧ a.toNat ≤ 30 then a + 1 else a

/-! ### Arrival checks of queued commands (R134 to R136) -/

/-- The tag is that of an addressed command in the queue (R134). -/
def CommandUnit.hasTag (c : CommandUnit) (tag : Half) : Bool :=
  c.queue.any (fun e => decide (e.origin = .addressed tag))

/-- The tag is that of a waiting or running store job (R134). -/
def StoreWriter.hasTag (w : StoreWriter) (tag : Half) : Bool :=
  w.jobs.any (fun j => decide (j.tag = tag)) || w.running.any (fun r => decide (r.tag = tag))

/-- Location of the pending work with a tag: 0 COMMAND-QUEUE, 1 STORE-WRITER (R134, Table 11-9). -/
def State.pendingLocation (s : State) (tag : Half) : Option Byte :=
  if s.commands.hasTag tag then some 0 else if s.writer.hasTag tag then some 1 else none

/-- The cache entry of a tag and a code (R135). -/
def CommandUnit.cached (c : CommandUnit) (tag : Half) (code : Byte) : Option CacheEntry :=
  c.cache.find? (fun e => decide (e.tag = tag ∧ e.code = code))

/-- A replay: the cached reply with the replayed flag and the part's address as it stands (R135). That the header's
cursor field is replayed with it is DEDUCED (log entry 7). -/
def State.replay (s : State) (e : CacheEntry) : State :=
  s.withUp (s.up.offerReply ⟨s.address, e.tag, e.code, e.status, true, e.cursor, e.payload⟩)

/-- A reservation is granted (R154). -/
def UpLane.grants (u : UpLane) : Bool := decide (u.reserved < u.free)

/-- A command joins the end of the command queue (R132, R136). -/
def State.enqueue (s : State) (e : Entry) : State :=
  s.withCommands { s.commands with queue := s.commands.queue ++ [e] }

/-- The command-drop counter increases (R146). -/
def State.countDrop (s : State) : State := s.withCommands { s.commands with drops := count16 s.commands.drops }

/-- The queue and reservation checks (R136, R154). -/
def State.acceptQueued (s : State) (tag : Half) (r : Request) : State :=
  if Config.queueSize ≤ s.commands.queue.length then
    s.countDrop.replyUnreserved tag (requestCode r) .refusedFull []
  else if s.up.grants then
    (s.withUp { s.up with reserved := s.up.reserved + 1 }).enqueue ⟨.addressed tag, r⟩
  else s.withUp s.up.drop

/-- An addressed queued command: tag check, reply cache, then the queue (R134 to R136). -/
def State.arriveQueued (s : State) (tag : Half) (r : Request) : State :=
  if tag = 0 then s.acceptQueued tag r
  else
    match s.pendingLocation tag with
    | some location => s.replyUnreserved tag (requestCode r) .refusedTag [location]
    | none =>
      match s.commands.cached tag (requestCode r) with
      | some e => s.replay e
      | none => s.acceptQueued tag r

/-! ### Addressed commands and broadcasts (R131 to R133) -/

/-- An addressed command is taken (R131, R133). The refusal carries the code and the length as received. -/
def State.takeAddressed (s : State) (time : Nat) (tag : Half) (code : Byte) (params : List Byte) : State :=
  match readRequest code params with
  | none | some (.enumerate _) => s.replyUnreserved tag code .refusedFormat [byte1 params.length]
  | some (.status flag) => s.takeStatus tag flag
  | some .cancel => s.takeCancel tag
  | some .resetPart => (s.resetPart.replyUnreserved tag 0x32 .done []).compareLossTimer time
  | some r => s.arriveQueued tag r

/-- A broadcast COMMIT or FADE joins the queue, or is dropped when it is full (R132). -/
def State.enqueueBroadcast (s : State) (r : Request) : State :=
  if s.commands.queue.length < Config.queueSize then s.enqueue ⟨.broadcast, r⟩ else s.countDrop

/-- A broadcast is taken and then forwarded (R131, R132, R173, R174). -/
def State.takeBroadcast (s : State) (time : Nat) (tag : Half) (code : Byte) (params : List Byte) : State :=
  let unchanged : DownPacket := .command 31 tag code params
  match readRequest code params with
  | some (.enumerate a) => (s.takeEnumerate tag a).handDown (.command 31 tag code [forwardedParameter a])
  | some .resetPart => (s.resetPart.handDown unchanged).compareLossTimer time
  | some .commit => (s.enqueueBroadcast .commit).handDown unchanged
  | some (.fade target frames) => (s.enqueueBroadcast (.fade target frames)).handDown unchanged
  | _ => s.countDrop.handDown unchanged

/-- The destination names this part (R130, R170). -/
def State.addressedBy (s : State) (dest : Byte) : Bool :=
  decide (dest.toNat = s.address ∧ 1 ≤ s.address ∧ s.address ≤ 30)

/-- COMMAND. More than 248 parameter bytes make no good COMMAND: such a packet is dropped (R169;
DESIGN CHOICE, log entry 11). -/
def execCommand (time : Nat) (dest : Byte) (tag : Half) (code : Byte) (params : List Byte) (s : State) :
    Host.Outcome State Fault Refusal :=
  if 248 < params.length then .next s.dropBad
  else if s.addressedBy dest then .next (s.takeAddressed time tag code params)
  else if dest = 31 then .next (s.takeBroadcast time tag code params)
  else .next (s.handDown (.command dest tag code params))

end Sys2Proof.Machine
end

