-- ==== Sys2Proof/Machine/Staging.lean ====
section
/-! DEFINITION. The staging commands executed at the queue head: PANE_SET (R9 to R12), PANE_STATE (R13,
R14), PANE_SCROLL (R45 to R47), PALETTE_LOAD (R58), MARKER_SET (R124), BACKGROUND_SET (R60). A head that is
another command, or is held (R74), does not execute: the state stays as it is (DESIGN CHOICE, log entry 1). -/

namespace Sys2Proof.Machine

/-! ### PANE_SET -/

/-- The failed check of Table 1-4, if one fails (R9). -/
def paneSetCheck (p : PaneSetParams) : Option Nat :=
  let width := p.width.toNat
  let height := p.height.toNat
  let stride := p.stride.toNat
  if 7 < p.pane.toNat then some 1
  else if 2047 < p.screenX.toNat ∨ 2047 < p.screenY.toNat then some 2
  else if width = 0 ∨ 2048 < width ∨ height = 0 ∨ 2048 < height then some 3
  else if stride < width ∨ 2048 < stride then some 4
  else if ¬ (p.hscale = 1 ∨ p.hscale = 2) ∨ ¬ (p.vscale = 1 ∨ p.vscale = 2) then some 5
  else if 16 < p.opacity.toNat then some 6
  else if ¬ (p.keyPresent = 0 ∨ p.keyPresent = 1) then some 7
  else if Config.storeEntries ≤ p.base.toNat then some 8
  else if !footprintFits p.base.toNat stride width height then some 9
  else none

/-- The shadow record after a PANE-SET that passes its checks (R10, R11): state kept, the descriptor kept
unless the extent changes. -/
def ShadowPane.set (old : ShadowPane) (p : PaneSetParams) : ShadowPane :=
  let cleared := extentChanges old.fields p.width.toNat p.height.toNat
  { fields :=
      { on := old.fields.on
        screenX := p.screenX.toNat
        screenY := p.screenY.toNat
        base := p.base.toNat
        stride := p.stride.toNat
        width := p.width.toNat
        height := p.height.toNat
        hscale := p.hscale.toNat
        vscale := p.vscale.toNat
        opacity := p.opacity.toNat
        key := if p.keyPresent = 1 then some p.key else none
        scroll := if cleared then Scroll.still else old.fields.scroll }
    requested := if cleared then none else old.requested }

/-- One shadow record replaced. -/
def PaneTable.setShadow (t : PaneTable) (i : Fin 8) (p : ShadowPane) : PaneTable :=
  { t with shadow := t.shadow.set i p }

/-- The pane a byte names; the commands check the range before they use it. -/
def paneOf (b : Byte) : Fin 8 := Fin.ofNat 8 b.toNat

/-- PANE-SET's effect and reply (R9 to R12). -/
def State.paneSet (s : State) (e : Entry) (p : PaneSetParams) : State :=
  match paneSetCheck p with
  | some n => s.complete e .refusedRange [byte1 n, p.pane]
  | none =>
    let i := paneOf p.pane
    let old := s.panes.shadow[i]
    (s.withPanes (s.panes.setShadow i (old.set p))).complete e .done
      [p.pane, flagByte (scrollCleared old.fields p.width.toNat p.height.toNat)]

/-- PANE_SET. -/
def execPaneSet (s : State) : Host.Outcome State Fault Refusal :=
  match s.readyHead with
  | some ⟨o, .paneSet p⟩ => .next (s.paneSet ⟨o, .paneSet p⟩ p)
  | _ => .next s

/-! ### PANE_STATE -/

/-- The failed check of PANE-STATE (R13). -/
def paneStateCheck (select on : Byte) : Option Nat :=
  if select = 0 then some 1 else if on &&& ~~~select ≠ 0 then some 2 else none

/-- The shadow records after PANE-STATE: each selected pane gets ON if it is in the on set, else OFF (R13). -/
def PaneTable.setStates (t : PaneTable) (select on : Byte) : PaneTable :=
  { t with shadow := Vector.ofFn (fun i : Fin 8 =>
      if paneIn select i then { t.shadow[i] with fields := { t.shadow[i].fields with on := paneIn on i } }
      else t.shadow[i]) }

/-- The shadow states as eight flags (R14). -/
def PaneTable.shadowStates (t : PaneTable) : PaneSet := paneSetOf (fun i => t.shadow[i].fields.on)

/-- PANE-STATE's effect and reply (R13, R14). -/
def State.paneState (s : State) (e : Entry) (select on : Byte) : State :=
  match paneStateCheck select on with
  | some n => s.complete e .refusedRange [byte1 n]
  | none =>
    let t := s.panes.setStates select on
    (s.withPanes t).complete e .done [t.shadowStates]

/-- PANE_STATE. -/
def execPaneState (s : State) : Host.Outcome State Fault Refusal :=
  match s.readyHead with
  | some ⟨o, .paneState select on⟩ => .next (s.paneState ⟨o, .paneState select on⟩ select on)
  | _ => .next s

/-! ### PANE_SCROLL -/

/-- The failed check of Table 3-4 against a shadow record, if one fails (R45). -/
def paneScrollCheck (p : PaneScrollParams) (shadow : PaneRec) : Option Nat :=
  let rate := p.rate.toInt
  let lead := p.lead.toNat
  let band := p.band.toNat
  let trail := p.trail.toNat
  if 7 < p.pane.toNat then some 1
  else
    match axisOf p.axis with
    | none => some 2
    | some .none => none
    | some axis =>
      if rate < -8 ∨ 8 < rate then some 3
      else if ¬ (p.requestedPresent = 0 ∨ p.requestedPresent = 1) then some 4
      else if 2048 < lead ∨ 2048 < band ∨ 2048 < trail then some 5
      else if band = 0 then some 6
      else if lead + band + trail ≠ (if axis = .vertical then shadow.height else shadow.width) then some 7
      else if p.requestedPresent = 1 ∧ band ≤ p.requested.toNat then some 8
      else none

/-- The descriptor a PANE-SCROLL writes (R46). -/
def scrollOf (p : PaneScrollParams) : Scroll :=
  match axisOf p.axis with
  | none | some .none => Scroll.still
  | some axis => ⟨axis, p.lead.toNat, p.band.toNat, p.trail.toNat, p.rate.toInt⟩

/-- The requested offset a PANE-SCROLL writes (R46, R48). -/
def requestedOf (p : PaneScrollParams) : Option Nat :=
  match axisOf p.axis with
  | none | some .none => none
  | some _ => if p.requestedPresent = 1 then some p.requested.toNat else none

/-- The shadow record after a PANE-SCROLL that passes its checks (R46). -/
def ShadowPane.setScroll (old : ShadowPane) (p : PaneScrollParams) : ShadowPane :=
  { fields := { old.fields with scroll := scrollOf p }, requested := requestedOf p }

/-- PANE-SCROLL's effect and reply (R45 to R47). -/
def State.paneScroll (s : State) (e : Entry) (p : PaneScrollParams) : State :=
  let i := paneOf p.pane
  match paneScrollCheck p s.panes.shadow[i].fields with
  | some n => s.complete e .refusedRange [byte1 n, p.pane]
  | none =>
    (s.withPanes (s.panes.setShadow i (s.panes.shadow[i].setScroll p))).complete e .done
      [p.pane, flagByte (restartFlag (scrollOf p) s.panes.active[i].fields.scroll)]

/-- PANE_SCROLL. -/
def execPaneScroll (s : State) : Host.Outcome State Fault Refusal :=
  match s.readyHead with
  | some ⟨o, .paneScroll p⟩ => .next (s.paneScroll ⟨o, .paneScroll p⟩ p)
  | _ => .next s

/-! ### PALETTE_LOAD -/

/-- Position of the first entry whose opacity is out of range (R58). -/
def firstBadEntry (entries : List PaletteEntry) : Option Nat :=
  entries.findIdx? (fun e => decide (16 < e.opacity.toNat))

/-- The failed check of PALETTE-LOAD and the position it names, 0 where it names none (R58, Table 11-9). -/
def paletteLoadCheck (first : Byte) (entries : List PaletteEntry) : Option (Nat × Nat) :=
  if 256 < first.toNat + entries.length then some (1, 0)
  else (firstBadEntry entries).map (fun i => (2, i))

/-- A run of entries written from an index on (R58). -/
def loadEntries (v : Vector PaletteEntry 256) : Nat → List PaletteEntry → Vector PaletteEntry 256
  | _, [] => v
  | i, e :: es => loadEntries (v.setIfInBounds i e) (i + 1) es

/-- PALETTE-LOAD's effect and reply (R58). -/
def State.paletteLoad (s : State) (e : Entry) (first : Byte) (entries : List PaletteEntry) : State :=
  match paletteLoadCheck first entries with
  | some (n, position) => s.complete e .refusedRange [byte1 n, byte1 position]
  | none =>
    (s.withPalette { s.palette with shadow := loadEntries s.palette.shadow first.toNat entries }).complete e .done
      [first, byte1 entries.length]

/-- PALETTE_LOAD. -/
def execPaletteLoad (s : State) : Host.Outcome State Fault Refusal :=
  match s.readyHead with
  | some ⟨o, .paletteLoad first entries⟩ => .next (s.paletteLoad ⟨o, .paletteLoad first entries⟩ first entries)
  | _ => .next s

/-! ### MARKER_SET -/

/-- The failed check of MARKER-SET, if one fails (R124). -/
def markerSetCheck (slot : Byte) (line : Half) (action : Byte) : Option Nat :=
  if 3 < slot.toNat then some 1
  else if 2047 < line.toNat then some 2
  else if actionOf action = none then some 3
  else none

/-- MARKER-SET's effect and reply (R124). -/
def State.markerSet (s : State) (e : Entry) (slot : Byte) (line : Half) (action : Byte) : State :=
  match markerSetCheck slot line action with
  | some n => s.complete e .refusedRange [byte1 n]
  | none =>
    let i : Fin 4 := Fin.ofNat 4 slot.toNat
    let written : MarkerSlot := ⟨line.toNat, (actionOf action).getD .off⟩
    (s.withMarkers { s.markers with shadow := s.markers.shadow.set i written }).complete e .done
      (slot :: bytes2 line.toNat ++ [action, flagByte (decide (written ≠ s.markers.active[i]))])

/-- MARKER_SET. -/
def execMarkerSet (s : State) : Host.Outcome State Fault Refusal :=
  match s.readyHead with
  | some ⟨o, .markerSet slot line action⟩ => .next (s.markerSet ⟨o, .markerSet slot line action⟩ slot line action)
  | _ => .next s

/-! ### BACKGROUND_SET -/

/-- BACKGROUND-SET's effect and reply (R60). -/
def State.backgroundSet (s : State) (e : Entry) (c : Pixel) : State :=
  (s.withPalette { s.palette with shadowBackground := c }).complete e .done [c.red, c.green, c.blue]

/-- BACKGROUND_SET. -/
def execBackgroundSet (s : State) : Host.Outcome State Fault Refusal :=
  match s.readyHead with
  | some ⟨o, .backgroundSet c⟩ => .next (s.backgroundSet ⟨o, .backgroundSet c⟩ c)
  | _ => .next s

end Sys2Proof.Machine
end

