-- ==== Sys2Proof/Machine/Control.lean ====
section
/-! DEFINITION. The other queued commands executed at the queue head: COMMIT (R68, R69), DISCARD (R77), FADE
(R62), CONFIG (R144), QUERY_PANE (R15), QUERY_PALETTE (R59), IDENTIFY (R147). None is held. -/

namespace Sys2Proof.Machine

/-! ### COMMIT -/

/-- COMMIT sets commit pending; the reply tells whether it was already set (R68, R69). -/
def State.commit (s : State) (e : Entry) : State :=
  (s.withCommitPending true).complete e .done [flagByte s.commitPending]

/-- COMMIT. -/
def execCommit (s : State) : Host.Outcome State Fault Refusal :=
  match s.readyHead with
  | some ⟨o, .commit⟩ => .next (s.commit ⟨o, .commit⟩)
  | _ => .next s

/-! ### DISCARD -/

/-- The shadow pane records restored from the active ones, with no requested offset (R77). -/
def PaneTable.discard (t : PaneTable) : PaneTable :=
  { t with shadow := Vector.ofFn (fun i : Fin 8 => ⟨t.active[i].fields, none⟩) }

/-- The shadow palette and background restored (R57, R77). -/
def PaletteTable.discard (p : PaletteTable) : PaletteTable :=
  { p with shadow := p.active, shadowBackground := p.activeBackground }

/-- The shadow marker table restored (R77, R123). -/
def MarkerUnit.discard (m : MarkerUnit) : MarkerUnit := { m with shadow := m.active }

/-- DISCARD's effect and reply (R77). -/
def State.discard (s : State) (e : Entry) : State :=
  ((((s.withPanes s.panes.discard).withPalette s.palette.discard).withMarkers s.markers.discard).withCommitPending
    false).complete e .done [flagByte s.commitPending]

/-- DISCARD. -/
def execDiscard (s : State) : Host.Outcome State Fault Refusal :=
  match s.readyHead with
  | some ⟨o, .discard⟩ => .next (s.discard ⟨o, .discard⟩)
  | _ => .next s

/-! ### FADE -/

/-- The failed check of FADE (R62). -/
def fadeCheck (target : Byte) (frames : Half) : Option Nat :=
  if 16 < target.toNat then some 1 else if 255 < frames.toNat then some 2 else none

/-- A ramp starts from the level as it stands; the level itself does not change (R62). -/
def FadeEngine.begin (f : FadeEngine) (target frames : Nat) : FadeEngine :=
  { level := f.level, ramp := true, start := f.level, target := target, count := frames, done := 0 }

/-- FADE's effect and reply (R62). -/
def State.beginFade (s : State) (e : Entry) (target : Byte) (frames : Half) : State :=
  match fadeCheck target frames with
  | some n => s.complete e .refusedRange [byte1 n]
  | none =>
    (s.withFade (s.fade.begin target.toNat frames.toNat)).complete e .done
      [byte1 s.fade.level, target, byte1 frames.toNat, flagByte s.fade.ramp]

/-- FADE. -/
def execFade (s : State) : Host.Outcome State Fault Refusal :=
  match s.readyHead with
  | some ⟨o, .fade target frames⟩ => .next (s.beginFade ⟨o, .fade target frames⟩ target frames)
  | _ => .next s

/-! ### CONFIG -/

/-- The failed check of CONFIG (R144). -/
def configCheck (freeRun interval : Byte) : Option Nat :=
  if ¬ (freeRun = 0 ∨ freeRun = 1) then some 1
  else if interval.toNat < 20 ∨ 250 < interval.toNat then some 2
  else none

/-- CONFIG's effect and reply (R144); then the running loss timer is compared with the new interval (R114). -/
def State.configure (s : State) (time : Nat) (e : Entry) (freeRun interval mask : Byte) : State :=
  match configCheck freeRun interval with
  | some n => s.complete e .refusedRange [byte1 n]
  | none =>
    ((s.withCommands { s.commands with config := ⟨decide (freeRun = 1), interval.toNat, mask⟩ }).complete e .done
      [freeRun, interval, mask]).compareLossTimer time

/-- CONFIG. -/
def execConfig (time : Nat) (s : State) : Host.Outcome State Fault Refusal :=
  match s.readyHead with
  | some ⟨o, .config freeRun interval mask⟩ =>
    .next (s.configure time ⟨o, .config freeRun interval mask⟩ freeRun interval mask)
  | _ => .next s

/-! ### QUERY_PANE -/

/-- The key fields of a record: present flag and value, 0 when absent (R15). -/
def keyBytes : Option Byte → List Byte
  | none => [0, 0]
  | some k => [1, k]

/-- The fields both copies hold, as reported (Table 11-11). -/
def recordBytes (p : PaneRec) : List Byte :=
  flagByte p.on :: bytes2 p.screenX ++ bytes2 p.screenY ++ bytes3 p.base ++ bytes2 p.stride ++ bytes2 p.width
    ++ bytes2 p.height ++ [byte1 p.hscale, byte1 p.vscale, byte1 p.opacity] ++ keyBytes p.key
    ++ [axisByte p.scroll.axis] ++ bytes2 p.scroll.lead ++ bytes2 p.scroll.band ++ bytes2 p.scroll.trail
    ++ [BitVec.ofInt 8 p.scroll.rate]

/-- The requested offset as reported: present flag and value, 0 when absent (Table 11-11). -/
def requestedBytes : Option Nat → List Byte
  | none => 0 :: bytes2 0
  | some o => 1 :: bytes2 o

/-- QUERY-PANE's reply (R15, Table 1-6, Table 11-9). -/
def State.queryPane (s : State) (e : Entry) (pane : Byte) : State :=
  if 7 < pane.toNat then s.complete e .refusedRange [1]
  else
    let shadow := s.panes.shadow[paneOf pane]
    let active := s.panes.active[paneOf pane]
    s.complete e .done
      (pane :: flagByte (paneDiffers shadow active) :: recordBytes shadow.fields ++ requestedBytes shadow.requested
        ++ recordBytes active.fields ++ bytes2 active.offset)

/-- QUERY_PANE. -/
def execQueryPane (s : State) : Host.Outcome State Fault Refusal :=
  match s.readyHead with
  | some ⟨o, .queryPane pane⟩ => .next (s.queryPane ⟨o, .queryPane pane⟩ pane)
  | _ => .next s

/-! ### QUERY_PALETTE -/

/-- The failed check of QUERY-PALETTE (R59). -/
def queryPaletteCheck (first count copy : Byte) : Option Nat :=
  if count.toNat = 0 ∨ 48 < count.toNat then some 1
  else if 256 < first.toNat + count.toNat then some 2
  else if ¬ (copy = 0 ∨ copy = 1) then some 3
  else none

/-- A run of entries from an index on (R59). -/
def paletteRun (v : Vector PaletteEntry 256) (first count : Nat) : List PaletteEntry :=
  (v.toList.drop first).take count

/-- QUERY-PALETTE's reply (R59). -/
def State.queryPalette (s : State) (e : Entry) (first count copy : Byte) : State :=
  match queryPaletteCheck first count copy with
  | some n => s.complete e .refusedRange [byte1 n]
  | none =>
    let table := if copy = 0 then s.palette.shadow else s.palette.active
    s.complete e .done (first :: count :: copy :: entryBytes (paletteRun table first.toNat count.toNat))

/-- QUERY_PALETTE. -/
def execQueryPalette (s : State) : Host.Outcome State Fault Refusal :=
  match s.readyHead with
  | some ⟨o, .queryPalette first count copy⟩ =>
    .next (s.queryPalette ⟨o, .queryPalette first count copy⟩ first count copy)
  | _ => .next s

/-! ### IDENTIFY -/

/-- IDENTIFY's reply (R147). -/
def State.identify (s : State) (e : Entry) : State := s.complete e .done (identity s.address)

/-- IDENTIFY. -/
def execIdentify (s : State) : Host.Outcome State Fault Refusal :=
  match s.readyHead with
  | some ⟨o, .identify⟩ => .next (s.identify ⟨o, .identify⟩)
  | _ => .next s

end Sys2Proof.Machine
end

