-- ==== Sys2Proof/Machine/StoreCommands.lean ====
section
/-! DEFINITION. The store commands at the queue head, handed to the store writer as jobs: WINDOW (R85), WRITE
(R92), FILL (R94), READ (R95), each held while the job queue is full (R86, R87); and PACE_STEP (R90). -/

namespace Sys2Proof.Machine

/-- WINDOW: handed over as a job (R85, R86). -/
def execWindow (s : State) : Host.Outcome State Fault Refusal :=
  match s.readyHead with
  | some ⟨.addressed tag, .window p⟩ => .next (s.handOver tag (.window p))
  | _ => .next s

/-- WRITE: handed over as a job (R86, R92). -/
def execWrite (s : State) : Host.Outcome State Fault Refusal :=
  match s.readyHead with
  | some ⟨.addressed tag, .write runs⟩ => .next (s.handOver tag (.write runs))
  | _ => .next s

/-- FILL: handed over as a job (R86, R94). -/
def execFill (s : State) : Host.Outcome State Fault Refusal :=
  match s.readyHead with
  | some ⟨.addressed tag, .fill value⟩ => .next (s.handOver tag (.fill value))
  | _ => .next s

/-- READ: handed over as a job (R86, R95). -/
def execRead (s : State) : Host.Outcome State Fault Refusal :=
  match s.readyHead with
  | some ⟨.addressed tag, .read count⟩ => .next (s.handOver tag (.read count))
  | _ => .next s

/-- PACE_STEP: the whole remaining allowance is given to the running work and to the jobs that start when it
ends (R90). Not due without work or without allowance: the state stays (DESIGN CHOICE, log entry 1). -/
def execPaceStep (s : State) : Host.Outcome State Fault Refusal :=
  if s.working = true ∧ 0 < s.writer.allowance then
    if s.writer.inStore then .next (State.workPixels s.writer.allowance s) else .fault .outsideStore
  else .next s

end Sys2Proof.Machine
end

