-- ==== Sys2Proof/Machine/Lanes.lean ====
section
/-! DEFINITION. POWER_ON, and the steps of the lanes: BAD_PACKET (R169), CREDIT (R172), UP_LANE_PACKET (R160),
SEND_BEGIN and SEND_END (R163, R164), CREDIT_EMISSION (R161), PACKET_EMISSION and EMISSION_END (R171). -/

namespace Sys2Proof.Machine

/-- POWER_ON: every block takes its power-on values at a time; the index store holds the power-up values of
this power-on (R81, R121 and the reset rule of every chapter). -/
def execPowerOn (time : Nat) (s : State) : Host.Outcome State Fault Refusal :=
  .next (State.afterPowerOn time (s.store.powerOns + 1) s.orderings s.pending)

/-- BAD_PACKET: dropped and counted (R169). A packet that is good is no BAD_PACKET. -/
def execBadPacket (bytes : List Byte) (s : State) : Host.Outcome State Fault Refusal :=
  match readPacket bytes with
  | none => .next s.dropBad
  | some _ => .next s

/-- CREDIT: its count is added to the send credits, which hold at 255 (R162, R172). -/
def execCredit (count : Byte) (s : State) : Host.Outcome State Fault Refusal :=
  .next (s.withUp { s.up with sendCredits := min (s.up.sendCredits + count.toNat) Config.creditMax })

/-- UP_LANE_PACKET: joins the relay buffer, or is dropped and counted when the buffer is full (R160). -/
def execUpLanePacket (bytes : List Byte) (s : State) : Host.Outcome State Fault Refusal :=
  if s.up.relay.length < Config.relaySize then .next (s.withUp { s.up with relay := s.up.relay ++ [bytes] })
  else .next (s.withUp { s.up with relayOverflow := count16 s.up.relayOverflow })

/-- A packet leaves the outbox (R163, R164). -/
def UpLane.sendOutbox (u : UpLane) (p : UpPacket) (rest : List UpPacket) : UpLane :=
  { u with outbox := rest, sendCredits := u.sendCredits - 1, turn := .relay, sending := some (.own p) }

/-- A packet leaves the relay buffer, and a credit is owed downstream for it (R161, R163, R164). -/
def UpLane.sendRelay (u : UpLane) (bytes : List Byte) (rest : List (List Byte)) : UpLane :=
  { u with relay := rest, sendCredits := u.sendCredits - 1, turn := .outbox, sending := some (.relayed bytes)
           creditsOwed := satSucc Config.creditMax u.creditsOwed }

/-- The arbiter's choice and the begin of the send; none when there is nothing to send (R164). -/
def UpLane.beginSend (u : UpLane) : Option UpLane :=
  match u.relay, u.outbox with
  | [], [] => none
  | [], p :: rest => some (u.sendOutbox p rest)
  | b :: rest, [] => some (u.sendRelay b rest)
  | b :: brest, p :: prest =>
    match u.turn with
    | .relay => some (u.sendRelay b brest)
    | .outbox => some (u.sendOutbox p prest)

/-- SEND_BEGIN: due when no send is in progress, a credit is there and a packet is queued (R163). -/
def execSendBegin (s : State) : Host.Outcome State Fault Refusal :=
  if s.up.sending = none ∧ 1 ≤ s.up.sendCredits then
    match s.up.beginSend with
    | some u => .next (s.withUp u)
    | none => .next s
  else .next s

/-- SEND_END: the send in progress is over (R163). -/
def execSendEnd (s : State) : Host.Outcome State Fault Refusal :=
  .next (s.withUp { s.up with sending := none })

/-- CREDIT_EMISSION: at a gap, with credits owed, the part's own CREDIT carries the count, which returns to 0
(R161). -/
def execCreditEmission (s : State) : Host.Outcome State Fault Refusal :=
  if s.down.emitting = none ∧ 0 < s.up.creditsOwed then
    .next ((s.withDown { s.down with emitting := some (.credit (byte1 s.up.creditsOwed)) }).withUp
      { s.up with creditsOwed := 0 })
  else .next s

/-- PACKET_EMISSION: at a gap with no credits owed (the CREDIT goes first, R161, R171), the oldest waiting packet
begins to be emitted. -/
def execPacketEmission (s : State) : Host.Outcome State Fault Refusal :=
  match s.down.waiting with
  | p :: rest =>
    if s.down.emitting = none ∧ s.up.creditsOwed = 0 then .next (s.withDown ⟨rest, some p⟩) else .next s
  | [] => .next s

/-- EMISSION_END: the emission in progress is over, and there is a gap (R171). -/
def execEmissionEnd (s : State) : Host.Outcome State Fault Refusal :=
  .next (s.withDown { s.down with emitting := none })

end Sys2Proof.Machine
end

