-- ==== Sys2Proof/Machine/Dispatch.lean ====
section
/-! DEFINITION. One arm per row of spec/opcode_table.json. -/

namespace Sys2Proof.Machine

def exec (i : Instr) (s : State) : Host.Outcome State Fault Refusal :=
  match i with
  | .powerOn time => Sys2Proof.Machine.execPowerOn time s
  | .badPacket bytes => Sys2Proof.Machine.execBadPacket bytes s
  | .frameOpen time number width lines => Sys2Proof.Machine.execFrameOpen time number width lines s
  | .line pixels => Sys2Proof.Machine.execLine pixels s
  | .blank => Sys2Proof.Machine.execBlank s
  | .frameClose number => Sys2Proof.Machine.execFrameClose number s
  | .credit count => Sys2Proof.Machine.execCredit count s
  | .command time dest tag code params => Sys2Proof.Machine.execCommand time dest tag code params s
  | .paneSet => Sys2Proof.Machine.execPaneSet s
  | .paneState => Sys2Proof.Machine.execPaneState s
  | .paneScroll => Sys2Proof.Machine.execPaneScroll s
  | .paletteLoad => Sys2Proof.Machine.execPaletteLoad s
  | .markerSet => Sys2Proof.Machine.execMarkerSet s
  | .backgroundSet => Sys2Proof.Machine.execBackgroundSet s
  | .window => Sys2Proof.Machine.execWindow s
  | .write => Sys2Proof.Machine.execWrite s
  | .fill => Sys2Proof.Machine.execFill s
  | .read => Sys2Proof.Machine.execRead s
  | .commit => Sys2Proof.Machine.execCommit s
  | .discard => Sys2Proof.Machine.execDiscard s
  | .fade => Sys2Proof.Machine.execFade s
  | .config time => Sys2Proof.Machine.execConfig time s
  | .queryPane => Sys2Proof.Machine.execQueryPane s
  | .queryPalette => Sys2Proof.Machine.execQueryPalette s
  | .identify => Sys2Proof.Machine.execIdentify s
  | .paceStep => Sys2Proof.Machine.execPaceStep s
  | .lossTimerExpiry time => Sys2Proof.Machine.execLossTimerExpiry time s
  | .internalActiveLine time => Sys2Proof.Machine.execInternalActiveLine time s
  | .internalBlankingLine time => Sys2Proof.Machine.execInternalBlankingLine time s
  | .upLanePacket bytes => Sys2Proof.Machine.execUpLanePacket bytes s
  | .sendBegin => Sys2Proof.Machine.execSendBegin s
  | .sendEnd => Sys2Proof.Machine.execSendEnd s
  | .creditEmission => Sys2Proof.Machine.execCreditEmission s
  | .packetEmission => Sys2Proof.Machine.execPacketEmission s
  | .emissionEnd => Sys2Proof.Machine.execEmissionEnd s

end Sys2Proof.Machine
end

