-- ==== Sys2Proof/Safety.lean ====
section
/-! DEFINITION. What a sound state of the part is, in the terms the rules use: the ranges and relations that
the spec says hold at every point. Each is a decidable predicate on states. -/

namespace Sys2Proof.Machine

/-! ### Replies owed and the outbox (R152 to R155) -/

/-- The entry is an addressed command. -/
def Entry.isAddressed (e : Entry) : Bool :=
  match e.origin with
  | .addressed _ => true
  | .broadcast => false

/-- Replies the part owes and has not built: addressed commands in the queue, and store jobs waiting or
running (R153). -/
def State.owed (s : State) : Nat :=
  (s.commands.queue.filter Entry.isAddressed).length + s.writer.jobs.length
    + (if s.writer.running.isSome then 1 else 0)

/-- No software job runs while the start-up clear runs (R81, R86). -/
abbrev State.clearRunsAlone (s : State) : Prop := s.clearing = true → s.writer.running = none

/-- The reservation count is the number of replies owed, and the free slots are never fewer (R153). -/
abbrev State.reservationsHold (s : State) : Prop :=
  s.up.reserved = s.owed ∧ s.up.outbox.length + s.up.reserved ≤ Config.outboxSize ∧ s.clearRunsAlone

/-! ### Capacities and counters -/

/-- No two cache entries have the same tag, and none has tag 0 (R142). -/
abbrev cacheTagsDistinct (cache : List CacheEntry) : Prop :=
  (cache.map (·.tag)).Nodup ∧ (0 : Half) ∉ cache.map (·.tag)

/-- The queues stay within their capacities (R86, R137, R142, R160). -/
abbrev State.capacitiesHold (s : State) : Prop :=
  s.commands.queue.length ≤ Config.queueSize ∧ s.writer.jobs.length ≤ Config.jobQueueSize
    ∧ s.up.relay.length ≤ Config.relaySize ∧ s.commands.cache.length ≤ Config.cacheSize
    ∧ cacheTagsDistinct s.commands.cache

/-- The counters and credits stay within their ranges (R28, R102, R103, R146, R157, R161, R162). -/
abbrev State.countersHold (s : State) : Prop :=
  s.badPackets ≤ 65535 ∧ s.tracker.strays ≤ 65535 ∧ s.tracker.framesCut ≤ 65535 ∧ s.tracker.blankCount ≤ 65535
    ∧ s.tracker.frame.linesTaken ≤ 65535 ∧ s.tracker.frame.blanksBefore ≤ 65535
    ∧ s.tracker.faults.width ≤ 65535 ∧ s.tracker.faults.excess ≤ 65535 ∧ s.tracker.faults.short ≤ 65535
    ∧ s.tracker.faults.strays ≤ 65535
    ∧ s.commands.drops ≤ 65535 ∧ s.up.upDrops ≤ 65535 ∧ s.up.relayOverflow ≤ 65535
    ∧ s.compositor.overrun.paneLines ≤ 65535 ∧ s.compositor.overrun.firstLine.getD 0 ≤ 2047
    ∧ s.up.lost ≤ 255 ∧ s.up.sendCredits ≤ 255 ∧ s.up.creditsOwed ≤ 255 ∧ s.writer.allowance ≤ 4096

/-! ### Tags of pending work (R134) -/

/-- The tag of an addressed queue entry. -/
def Entry.tag? (e : Entry) : Option Half :=
  match e.origin with
  | .addressed tag => some tag
  | .broadcast => none

/-- The nonzero tags of the pending work: the command queue, the waiting jobs, the running job (R134). -/
def State.pendingTags (s : State) : List Half :=
  (s.commands.queue.filterMap Entry.tag? ++ s.writer.jobs.map (·.tag)
    ++ s.writer.running.toList.map (·.tag)).filter (fun t => decide (t ≠ 0))

/-- They are distinct (R134); the clear runs alone. -/
abbrev State.tagsDistinct (s : State) : Prop := s.pendingTags.Nodup ∧ s.clearRunsAlone

/-! ### Panes, palette, markers, configuration, address -/

/-- Every pane record, shadow and active, is valid (R6). -/
abbrev State.panesValid (s : State) : Prop :=
  (∀ i : Fin 8, s.panes.shadow[i].valid = true) ∧ (∀ i : Fin 8, s.panes.active[i].valid = true)

/-- Every palette entry has an opacity in 0..16 (Table 4-1), and every marker slot a line in 0..2047 (Table
8-1), in both copies. -/
abbrev State.tablesInRange (s : State) : Prop :=
  (∀ e ∈ s.palette.shadow.toList, e.opacity.toNat ≤ 16) ∧ (∀ e ∈ s.palette.active.toList, e.opacity.toNat ≤ 16)
    ∧ (∀ i : Fin 4, s.markers.shadow[i].line ≤ 2047) ∧ (∀ i : Fin 4, s.markers.active[i].line ≤ 2047)

/-- The address is 0..30 and the loss interval 20..250 ms (R144, R176). -/
abbrev State.settingsInRange (s : State) : Prop :=
  s.address ≤ 30 ∧ 20 ≤ s.commands.config.lossInterval ∧ s.commands.config.lossInterval ≤ 250

/-! ### Fade engine (R61) -/

/-- The level lies in 0..16 and between the start level and the target; after a ramp it equals the target; a
ramp in progress has frame starts left (R61, R63). -/
abbrev FadeEngine.sound (f : FadeEngine) : Prop :=
  f.level ≤ 16 ∧ f.start ≤ 16 ∧ f.target ≤ 16 ∧ f.count ≤ 255 ∧ f.done ≤ f.count
    ∧ min f.start f.target ≤ f.level ∧ f.level ≤ max f.start f.target
    ∧ (f.ramp = true → f.count = 0 ∨ f.done < f.count) ∧ (f.ramp = false → f.level = f.target)

/-! ### Store writer (R83, R94) -/

/-- The running job fits the window: a FILL's captured window is the window, entries are left, and the cursor
is at (0, 0); a WRITE or READ has pixels left and its cursor is at a position (R92, R94, R95). -/
def StoreWriter.runningFits (w : StoreWriter) : Bool :=
  match w.running, w.window with
  | none, _ => true
  | some _, none => false
  | some ⟨_, .fill _ captured written⟩, some win =>
    decide (captured = win ∧ written < win.positions ∧ w.cursor = some (.pos 0 0))
  | some ⟨_, .write left _⟩, some _ => decide (left ≠ [] ∧ w.cursor.isSome ∧ w.cursor ≠ some .exhausted)
  | some ⟨_, .read left _⟩, some _ => decide (1 ≤ left ∧ w.cursor.isSome ∧ w.cursor ≠ some .exhausted)

/-- The window satisfies the footprint rule, the cursor exists while the window does and lies in it, and the
running job fits (R83, R86, R94). -/
abbrev State.writerSound (s : State) : Prop :=
  s.writer.inStore = true ∧ s.writer.runningFits = true ∧ (s.writer.window.isSome ↔ s.writer.cursor.isSome)
    ∧ s.store.progress ≤ Config.storeEntries ∧ s.clearRunsAlone

/-! ### Video tracker (R102, R114, R117, R118) -/

/-- The timing record's ranges (R117). -/
abbrev Timing.inRange (t : Timing) : Prop :=
  1 ≤ t.width ∧ t.width ≤ 2048 ∧ 1 ≤ t.lines ∧ t.lines ≤ 2048 ∧ t.blanks ≤ 1023 ∧ 4000 ≤ t.period
    ∧ t.period ≤ 250000

/-- W and H of a record: in 1..2048, or absent for a PASS-THROUGH frame (Table 7-2). -/
def FrameRecord.sizeFits (f : FrameRecord) : Bool :=
  match f.kind, f.width, f.lines with
  | .passThrough, none, none => true
  | .locked, some w, some h | .internal, some w, some h =>
    decide (1 ≤ w ∧ w ≤ 2048 ∧ 1 ≤ h ∧ h ≤ 2048)
  | _, _, _ => false

/-- In FREE-RUN an internal frame runs, the loss timer is stopped and the previous open time absent; in a
locked state a locked frame stands in the record, no internal frame runs, and the timer and the previous open
time are there (R102, R114, R115, R117, R118). -/
def Tracker.modeFits (t : Tracker) : Bool :=
  match t.state with
  | .freeRun =>
    decide (t.frame.kind = .internal ∧ t.lossStart = none ∧ t.prevOpen = none)
      && (match t.generator with
          | some g => decide (g.blanks ≤ 1023 ∧ 4000 ≤ g.period ∧ g.period ≤ 250000
              ∧ g.slot < t.frame.lines.getD 0 + g.blanks
              ∧ t.frame.linesTaken = min g.slot (t.frame.lines.getD 0))
          | none => false)
  | .inFrame | .betweenFrames =>
    decide (t.frame.kind ≠ .internal ∧ t.generator = none ∧ t.lossStart.isSome ∧ t.lossStart = t.prevOpen
      ∧ t.frame.openTime = t.lossStart ∧ (t.frame.openedFrom = some .betweenFrames → t.frame.periodBase.isSome))

/-- The tracker is sound. -/
abbrev Tracker.sound (t : Tracker) : Prop :=
  t.timing.inRange ∧ t.frame.sizeFits = true ∧ t.modeFits = true

/-! ### What no step does -/

/-- The state lets every step run: the active pane records are valid (R6), and the window, the cursor and a
running FILL lie inside the store (R83). -/
abbrev State.runs (s : State) : Prop := s.panes.activeValid = true ∧ s.writer.inStore = true

/-! ### Words the statements use: replies and notices -/

/-- The number of the first check that fails, counted from 1; `fails` lists a command's checks in order. -/
def firstFailed (fails : List Bool) : Option Nat := (fails.findIdx? id).map (· + 1)

/-- From `s` to `t` the head `e` has left the command queue, and its reply, if it was addressed, stands at the
end of the outbox in place of its reservation, and in the cache if it was tagged (R138, R140, R142, R155). -/
def State.answered (s t : State) (e : Entry) (status : Status) (cursor : Option Cursor) (payload : List Byte) :
    Prop :=
  match e.origin with
  | .broadcast => t.up = s.up ∧ t.commands = { s.commands with queue := s.commands.queue.tail }
  | .addressed tag =>
    t.up = { s.up with
      outbox := s.up.outbox ++
        [.reply ⟨s.address, tag, requestCode e.request, status, false, cursor, payload⟩]
      reserved := s.up.reserved - 1 }
    ∧ t.commands = { s.commands with
        queue := s.commands.queue.tail
        cache := if tag = 0 then s.commands.cache
          else cacheInsert s.commands.cache ⟨tag, requestCode e.request, status, cursor, payload⟩ }

/-- From `s` to `t` a store job's reply stands at the end of the outbox in place of its reservation, and in the
cache if it was tagged (R96, R142, R155). -/
def State.jobAnswered (s t : State) (tag : Half) (code : Byte) (status : Status) (cursor : Option Cursor)
    (payload : List Byte) : Prop :=
  t.up = { s.up with
    outbox := s.up.outbox ++ [.reply ⟨s.address, tag, code, status, false, cursor, payload⟩]
    reserved := s.up.reserved - 1 }
  ∧ t.commands = { s.commands with
      cache := if tag = 0 then s.commands.cache else cacheInsert s.commands.cache ⟨tag, code, status, cursor, payload⟩ }

/-- The waiting job `j` ends at its start, with `rest` behind it: the window and cursor are as given, its reply is
built, and the next job starts from there (R86, R88, R90, R96). -/
def State.startEnds (s : State) (j : Job) (rest : List Job) (window : Option Window) (cursor : Option Cursor)
    (code : Byte) (status : Status) (replyCursor : Option Cursor) (payload : List Byte) : Prop :=
  ∃ u : State, u = { s with
      writer := { s.writer with jobs := rest, running := none, window := window, cursor := cursor }
      commands := u.commands
      up := u.up }
    ∧ s.jobAnswered u j.tag code status replyCursor payload
    ∧ s.startNext = u.startNext

/-- The pace step of `s` whose work has ended in `t` goes on with the jobs that wait there: the head of the job queue
starts and the pace step is that of the state it starts in; with none waiting `t` is its next state (R82, R86, R90). -/
def State.paceGoesOnFrom (s t : State) : Prop :=
  exec .paceStep s = exec .paceStep t.startNext ∧ (t.writer.jobs = [] → exec .paceStep s = .next t)

/-- The up-lane transmitter after the offer of an unreserved packet that is no notice (R156, R157). -/
def UpLane.afterReply (u : UpLane) (r : Reply) : UpLane :=
  if u.outbox.length + u.reserved < 32 then { u with outbox := u.outbox ++ [.reply r] }
  else { u with upDrops := min (u.upDrops + 1) 65535, lost := min (u.lost + 1) 255 }

/-- The up-lane transmitter after the offer of an enabled notice (R156, R157). -/
def UpLane.afterNotice (u : UpLane) (address : Nat) (kind : NoticeKind) (payload : List Byte) : UpLane :=
  if u.outbox.length + u.reserved < 32 then
    { u with outbox := u.outbox ++ [.notice ⟨address, kind, u.lost, payload⟩], lost := 0 }
  else { u with upDrops := min (u.upDrops + 1) 65535, lost := min (u.lost + 1) 255 }

/-- The offers of a list whose kind the notice mask enables (R158). -/
def State.enabled (s : State) (offers : List Offer) : List Offer :=
  offers.filter (fun o => maskEnables s.commands.config.mask o.kind)

/-- The up-lane transmitter after offers that reach the outbox in this order: each that the mask enables is admitted
or dropped against the outbox as it then stands (R156 to R159). -/
def State.afterNotices (s : State) (offers : List Offer) : UpLane :=
  (s.enabled offers).foldl (fun u o => u.afterNotice s.address o.kind o.payload) s.up

/-- `order` takes every offer of every block once, each block's in the block's own order (R159). -/
def interleaves (blocks : List (List Offer)) : List Offer → Prop
  | [] => blocks.flatten = []
  | o :: order => ∃ i rest, blocks[i]? = some (o :: rest) ∧ interleaves (blocks.set i rest) order

/-- From `s` to `t` the up-lane transmitter has taken the offers `first` in order and then those of several blocks
that come together, in one of the orders that keep each block's own (R159); nothing else of it has changed. -/
def State.noticed (s t : State) (first : List Offer) (blocks : List (List Offer)) : Prop :=
  ∃ order, interleaves blocks order ∧ t.up = s.afterNotices (first ++ order)

/-- The offers of a frame start at which a frame of this number begins and the fade level is then `level`: COMMITTED
of the commit logic and FADE-DONE of the fade engine (R64, R73). -/
def State.startNotices (s : State) (number : Half) (level : Nat) : List (List Offer) :=
  [if s.commitPending = true then [⟨.committed, bytes2 number.toNat⟩] else [],
   if s.fade.ramp = true ∧ s.fade.count ≤ s.fade.done + 1 then [⟨.fadeDone, [byte1 level]⟩] else []]

/-- The offers of the end of the frame of this number: the tracker's FRAME-FAULTS, with what the tracker offers after
it in the same happening, and the compositor's OVERRUN (R30, R106, R115, R120). -/
def endNotices (number : Half) (f : FrameFaults) (o : Overrun) (after : List Offer) : List (List Offer) :=
  [(if f.width = 0 ∧ f.excess = 0 ∧ f.short = 0 ∧ f.strays = 0 ∧ f.cut = false then []
    else [⟨.frameFaults, bytes2 number.toNat ++ bytes2 f.width ++ bytes2 f.excess ++ bytes2 f.short
      ++ [if f.cut then 1 else 0] ++ bytes2 f.strays⟩]) ++ after,
   if o.skipped = 0 then []
   else [⟨.overrun, bytes2 number.toNat ++ [o.skipped] ++ bytes2 (o.firstLine.getD 0) ++ bytes2 o.paneLines⟩]]

/-- The MARKER offers of an active line with arrival index `y` in a composed frame, by slot (R126). -/
def State.markerNotices (s : State) (y : Nat) : List Offer :=
  ([0, 1, 2, 3] : List (Fin 4)).flatMap (fun i =>
    if s.markers.active[i].line = y ∧ (s.markers.active[i].action = .notice ∨ s.markers.active[i].action = .both)
    then [⟨.marker, byte1 i.val :: bytes2 s.tracker.frame.number.toNat ++ bytes2 y⟩] else [])

/-- MARK is high from a composed active line with arrival index `y` (R127). -/
def State.marksLine (s : State) (y : Nat) : Bool :=
  decide (∃ i : Fin 4, s.markers.active[i].line = y
    ∧ (s.markers.active[i].action = .pulse ∨ s.markers.active[i].action = .both))

/-! ### Words the statements use: frames and lines -/

/-- The current offset of a pane after a frame start (R49, R50): `fields` is the active record for the frame
that starts. -/
def startedOffset (commit : Bool) (sh : ShadowPane) (a : ActivePane) (fields : PaneRec) : Nat :=
  let old := a.fields.scroll
  let new := sh.fields.scroll
  if commit = true ∧ (sh.requested.isSome ∨ new.axis ≠ old.axis ∨ new.lead ≠ old.lead ∨ new.band ≠ old.band
      ∨ new.trail ≠ old.trail) then
    sh.requested.getD 0
  else if fields.on = true ∧ fields.scroll.rate ≠ 0 ∧ fields.scroll.axis ≠ .none then
    (((a.offset : Int) + fields.scroll.rate) % (fields.scroll.band : Int)).toNat
  else a.offset

/-- From `s` to `t` a frame start has been taken: the pending commit is performed, offsets and fade step, the
overrun record is emptied (R29, R49, R50, R63, R71). -/
def State.frameStarted (s t : State) : Prop :=
  t.commitPending = false
  ∧ t.compositor = ⟨s.compositor.admission, ⟨0, none, 0⟩⟩
  ∧ (∀ i : Fin 8,
      t.panes.active[i].fields = (if s.commitPending then s.panes.shadow[i].fields else s.panes.active[i].fields)
      ∧ t.panes.active[i].offset
          = startedOffset s.commitPending s.panes.shadow[i] s.panes.active[i] t.panes.active[i].fields
      ∧ t.panes.shadow[i].fields = s.panes.shadow[i].fields
      ∧ t.panes.shadow[i].requested = (if s.commitPending then none else s.panes.shadow[i].requested))
  ∧ t.palette = (if s.commitPending then
      ⟨s.palette.shadow, s.palette.shadow, s.palette.shadowBackground, s.palette.shadowBackground⟩ else s.palette)
  ∧ t.markers.shadow = s.markers.shadow
  ∧ t.markers.active = (if s.commitPending then s.markers.shadow else s.markers.active)
  ∧ t.fade = (if s.fade.ramp = false then s.fade
      else if s.fade.count = 0 then { s.fade with level := s.fade.target, ramp := false }
      else { s.fade with
        level := ((s.fade.start : Int)
          + Int.tdiv (((s.fade.target : Int) - s.fade.start) * (s.fade.done + 1)) s.fade.count).toNat
        done := s.fade.done + 1
        ramp := decide (s.fade.done + 1 < s.fade.count) })

/-- The FRAME-OPEN's frame record (R102, R104 to R106). -/
def openedRecord (time : Nat) (number width lines : Half) (opened : TrackerState) (blanks : Nat)
    (base : Option Nat) : FrameRecord :=
  if 1 ≤ width.toNat ∧ width.toNat ≤ 2048 ∧ 1 ≤ lines.toNat ∧ lines.toNat ≤ 2048 then
    ⟨number, .locked, some width.toNat, some lines.toNat, 0, some opened, blanks, some time, base⟩
  else ⟨number, .passThrough, none, none, 0, some opened, blanks, some time, base⟩

/-- The tracker as an internal frame begins at `time` (R113, R118). -/
def Tracker.internalBegun (t : Tracker) (time : Nat) : Tracker :=
  { t with
    state := .freeRun
    frame := ⟨t.frame.number + 1, .internal, some t.timing.width, some t.timing.lines, 0, none, 0, none, none⟩
    faults := ⟨0, 0, 0, 0, false⟩
    generator := some ⟨time, t.timing.blanks, t.timing.period, 0⟩
    lossStart := none
    prevOpen := none
    blankCount := 0 }

/-- The fault record of a locked frame as it ends, with short recorded (R103). -/
def Tracker.endFaults (t : Tracker) : FrameFaults :=
  match t.frame.kind, t.frame.lines with
  | .locked, some h => if t.frame.linesTaken < h then { t.faults with short := h - t.frame.linesTaken } else t.faults
  | _, _ => t.faults

/-- The overrun record after a composed line whose admission skipped `skipped` (R28). -/
def Overrun.afterLine (o : Overrun) (y : Nat) (skipped : PaneSet) : Overrun :=
  let n := (([0, 1, 2, 3, 4, 5, 6, 7] : List Nat).filter (fun i => skipped.getLsbD i)).length
  if n = 0 then o
  else ⟨o.skipped ||| skipped, some (o.firstLine.getD y), min (o.paneLines + n) 65535⟩

/-- The pixel of a composed line at column x: the admitted panes are blended in increasing number over the
pixel as it starts, below column `w` (R21, R32). -/
def State.composedPixel (s : State) (y w x : Nat) (start : Pixel) : Pixel :=
  if x < w then
    (([0, 1, 2, 3, 4, 5, 6, 7] : List (Fin 8)).filter
        (fun i => (admissionOf s.panes.active y w).admitted.getLsbD i.val)).foldl
      (fun under i =>
        match contribution s.panes.active[i] s.palette.active s.store x y with
        | some entry => blend entry s.panes.active[i].fields.opacity s.fade.level under
        | none => under) start
  else start

/-- `out` is a line's pixels composed from `start` (R21, R36). -/
def State.composesTo (s : State) (y w : Nat) (start out : List Pixel) : Prop :=
  out.length = start.length ∧ ∀ x p, start[x]? = some p → out[x]? = some (s.composedPixel y w x p)

/-! ### Words the statements use: steps and packets -/

/-- Does the step execute a queued command of this kind at the queue head? -/
def executes : Instr → Request → Bool
  | .paneSet, .paneSet _ | .paneState, .paneState .. | .paneScroll, .paneScroll _
  | .paletteLoad, .paletteLoad .. | .markerSet, .markerSet .. | .backgroundSet, .backgroundSet _
  | .window, .window _ | .write, .write _ | .fill, .fill _ | .read, .read _
  | .commit, .commit | .discard, .discard | .fade, .fade .. | .config _, .config ..
  | .queryPane, .queryPane _ | .queryPalette, .queryPalette .. | .identify, .identify => true
  | _, _ => false

/-- The steps that execute a queued command at the queue head. -/
def runsAtHead : Instr → Bool
  | .paneSet | .paneState | .paneScroll | .paletteLoad | .markerSet | .backgroundSet
  | .window | .write | .fill | .read
  | .commit | .discard | .fade | .config _ | .queryPane | .queryPalette | .identify => true
  | _ => false

/-- The work of a store command (R86). -/
def storeWork : Request → Option Work
  | .window p => some (.window p)
  | .write runs => some (.write runs)
  | .fill value => some (.fill value)
  | .read count => some (.read count)
  | _ => none

/-- A packet within the sizes of Table 11-1. -/
def packetFits : DownPacket → Bool
  | .line pixels => decide (pixels.length ≤ 2048)
  | .command _ _ _ params => decide (params.length ≤ 248)
  | _ => true

/-- The step that an arriving good packet is (R170). -/
def packetStep (time : Nat) : DownPacket → Instr
  | .frameOpen number width lines => .frameOpen time number width lines
  | .line pixels => .line pixels
  | .blank => .blank
  | .frameClose number => .frameClose number
  | .command dest tag code params => .command time dest tag code params
  | .credit count => .credit count

/-- The tag is that of an addressed command in the queue, of a waiting job or of the running job (R134). -/
def State.hasPending (s : State) (tag : Half) : Prop :=
  (∃ e ∈ s.commands.queue, e.origin = .addressed tag) ∨ (∃ j ∈ s.writer.jobs, j.tag = tag)
    ∨ (∃ r, s.writer.running = some r ∧ r.tag = tag)

/-- The values a WRITE still writes, pixel by pixel (R92). -/
def runValues (left : List (Byte × Nat)) : List Byte := left.flatMap (fun r => List.replicate r.2 r.1)

/-- The k-th position of a window in its order, as a cursor: EXHAUSTED after the last (R84). -/
def Window.cursorAt (w : Window) (k : Nat) : Cursor :=
  if k < w.width * w.height then
    match w.order with
    | .rowFirst => .pos (k % w.width) (k / w.width)
    | .columnFirst => .pos (k / w.height) (k % w.height)
  else .exhausted

/-- The address of the k-th position (R83). -/
def Window.entryAt (w : Window) (k : Nat) : Nat :=
  match w.order with
  | .rowFirst => w.base + k / w.width * w.stride + k % w.width
  | .columnFirst => w.base + k % w.height * w.stride + k / w.height

end Sys2Proof.Machine
end

