-- ==== Sys2Proof/Certificates/Slice0/Obligations.lean ====
section
/-! DEFINITION. The statements for the provers, one `def Obligations.<Name> : Prop` each; OBLIGATIONS.json lists
them with the rules they rest on. `{ s with … := t.… }` on the right of `t = …` is a frame: every block of the
state that it does not name is the same in `s` and `t`, the index store's entries and `pending` among them.
`s.noticed t first blocks` fixes the whole of the up-lane transmitter of `t`: every field of `s.up` stays but what
the admission or the drop of each enabled offer writes. -/

open Sys2Proof Sys2Proof.Machine

/-! ### The queue of steps, reset and power-on -/

/-- A step runs the front of the queue on the state with the queue's rest; with an empty queue the part idles
(the interface; log entry 2). -/
def Obligations.StepRunsQueueFront : Prop :=
  (∀ (c : Instr) (rest : List Instr) (s : State),
    step { s with pending := c :: rest } = exec c { s with pending := rest })
  ∧ ∀ s : State, s.pending = [] → step s = .next s

/-- What the spec gives for power-on, block by block (R17, R27, R29, R61, R65, R79, R101, R121, R129, R151,
R166, R171, R176). -/
def Obligations.ResetLeavesSpecifiedValues : Prop :=
  State.reset.address = 0 ∧ State.reset.badPackets = 0
  ∧ State.reset.tracker.state = .freeRun
  ∧ State.reset.tracker.frame = ⟨0, .internal, some 1280, some 720, 0, none, 0, none, none⟩
  ∧ State.reset.tracker.faults = ⟨0, 0, 0, 0, false⟩
  ∧ State.reset.tracker.timing = ⟨1280, 720, 30, 16667⟩
  ∧ (∃ g, State.reset.tracker.generator = some g ∧ g.blanks = 30 ∧ g.period = 16667 ∧ g.slot = 0)
  ∧ State.reset.tracker.lossStart = none ∧ State.reset.tracker.prevOpen = none
  ∧ State.reset.tracker.blankCount = 0 ∧ State.reset.tracker.strays = 0 ∧ State.reset.tracker.framesCut = 0
  ∧ (∀ i : Fin 8, State.reset.panes.shadow[i]
        = ⟨⟨false, 0, 0, 0, 1, 1, 1, 1, 1, 16, none, ⟨.none, 0, 0, 0, 0⟩⟩, none⟩
      ∧ State.reset.panes.active[i]
        = ⟨⟨false, 0, 0, 0, 1, 1, 1, 1, 1, 16, none, ⟨.none, 0, 0, 0, 0⟩⟩, 0⟩)
  ∧ (∀ i : Fin 256, State.reset.palette.shadow[i] = ⟨0, 0, 0, 0⟩ ∧ State.reset.palette.active[i] = ⟨0, 0, 0, 0⟩)
  ∧ State.reset.palette.shadowBackground = ⟨0, 0, 0⟩ ∧ State.reset.palette.activeBackground = ⟨0, 0, 0⟩
  ∧ State.reset.fade = ⟨16, false, 16, 16, 0, 0⟩
  ∧ State.reset.commitPending = false
  ∧ State.reset.compositor = ⟨⟨0, 0⟩, ⟨0, none, 0⟩⟩
  ∧ State.reset.store.progress = 0
  ∧ State.reset.writer = ⟨none, none, [], none, 0⟩
  ∧ (∀ i : Fin 4, State.reset.markers.shadow[i] = ⟨0, .off⟩ ∧ State.reset.markers.active[i] = ⟨0, .off⟩)
  ∧ State.reset.markers.mark = false
  ∧ State.reset.commands = ⟨[], [], ⟨false, 100, 255⟩, 0⟩
  ∧ State.reset.up = ⟨[], 0, 0, [], 0, 8, .relay, 0, 0, none⟩
  ∧ State.reset.down = ⟨[], none⟩

/-- The reset state meets every invariant stated below. -/
def Obligations.ResetMeetsEveryInvariant : Prop :=
  State.reset.reservationsHold ∧ State.reset.panesValid ∧ State.reset.store.wf ∧ State.reset.tagsDistinct
  ∧ State.reset.capacitiesHold ∧ State.reset.countersHold ∧ State.reset.tablesInRange
  ∧ State.reset.settingsInRange ∧ State.reset.fade.sound ∧ State.reset.writerSound ∧ State.reset.tracker.sound

/-- POWER_ON at a time brings every block to its power-on value, in any state, and every entry of the index store
to the power-up value of this power-on (R81, R121 and the reset rule of each chapter). That the power-up values
are free values of the count of power-ons is log entry 4; that the generator's frame starts at the operand's
time is log entry 3. -/
def Obligations.PowerOnRestoresEveryBlock : Prop :=
  ∀ (time : Nat) (s : State), ∃ t, exec (.powerOn time) s = .next t
    ∧ t = { State.reset with
        tracker := { State.reset.tracker with generator := some ⟨time, 30, 16667, 0⟩ }
        store := t.store
        orderings := s.orderings
        pending := s.pending }
    ∧ t.store.progress = 0 ∧ t.store.wf
    ∧ ∀ a, t.store.read a = Config.powerUpEntry (s.store.powerOns + 1) a

/-! ### Invariants that every step keeps -/

/-- The reservation count stays the number of replies owed, and the free slots of the outbox are never fewer
(R153). -/
def Obligations.ReservationsStayCovered : Prop :=
  ∀ s t : State, s.reservationsHold → step s = .next t → t.reservationsHold

/-- Every pane record, shadow and active, stays valid (R6). -/
def Obligations.PaneRecordsStayValid : Prop :=
  ∀ s t : State, s.panesValid → step s = .next t → t.panesValid

/-- The index store keeps its canonical form (the model's; log entry 4). -/
def Obligations.IndexStoreStaysCanonical : Prop :=
  ∀ s t : State, s.store.wf → step s = .next t → t.store.wf

/-- The nonzero tags of the pending work stay distinct (R134), and the queues and the cache stay within their
capacities, the cache with distinct nonzero tags (R86, R137, R142, R160). -/
def Obligations.PendingWorkStaysBounded : Prop :=
  ∀ s t : State, s.tagsDistinct ∧ s.capacitiesHold → step s = .next t → t.tagsDistinct ∧ t.capacitiesHold

/-- Counters, records, credits and the allowance, the palette and marker tables, the address and the loss interval stay
within their ranges (R28, R54, R89, R102, R103, R122, R144, R146, R157, R161, R162, R176), short of the frame-fault
record and the first line of the overrun record among them; these two rest on the frame record's W and H being in
1..2048, which is TrackerRecordsStayConsistent. -/
def Obligations.CountersAndTablesStayInRange : Prop :=
  ∀ s t : State, s.tracker.sound → s.countersHold ∧ s.tablesInRange ∧ s.settingsInRange → step s = .next t →
    t.countersHold ∧ t.tablesInRange ∧ t.settingsInRange

/-- The fade level stays in 0..16 and between the start level and the target, and equals the target when no ramp
is in progress (R61, R63). -/
def Obligations.FadeLevelStaysBetweenStartAndTarget : Prop :=
  ∀ s t : State, s.fade.sound → step s = .next t → t.fade.sound

/-- The write window stays inside the index store, the cursor exists with it and lies in it, and the running job
has pixels left in it (R83, R86, R92, R94, R95). -/
def Obligations.WriterStaysInsideItsWindow : Prop :=
  ∀ s t : State, s.writerSound → step s = .next t → t.writerSound

/-- The timing record stays in range, and state, frame record, loss timer, previous open time and internal
generator stay consistent (R102, R114, R117, R118). -/
def Obligations.TrackerRecordsStayConsistent : Prop :=
  ∀ s t : State, s.tracker.sound → step s = .next t → t.tracker.sound

/-- From a state with valid pane records and a sound store writer no step stops the machine, whatever stands in
the queue, and the next state is such a state again (R6, R83). -/
def Obligations.SoundStatesNeverStop : Prop :=
  ∀ s : State, s.panesValid → s.writerSound →
    ∃ t, step s = .next t ∧ t.panesValid ∧ t.writerSound

/-! ### Packets and parameter blocks -/

/-- The good packets are exactly the byte strings of Table 11-1 with their CRC, each read back as the packet it
was written from; an arriving packet is the step of its kind, or BAD_PACKET (R167 to R170). -/
def Obligations.GoodPacketsAreTheirBytes : Prop :=
  (∀ (bytes : List Byte) (p : DownPacket),
    readPacket bytes = some p ↔ packetFits p = true ∧ bytes = p.bytes)
  ∧ (∀ (time : Nat) (p : DownPacket), packetFits p = true → receive time p.bytes = packetStep time p)
  ∧ (∀ (time : Nat) (bytes : List Byte), readPacket bytes = none → receive time bytes = .badPacket bytes)

/-- A code and a parameter block make a command exactly when they are that command's bytes, and the format check
passes exactly the codes and lengths of Table 11-6 (R131, R177). -/
def Obligations.CommandBlocksAreTheirBytes : Prop :=
  (∀ (code : Byte) (params : List Byte) (r : Request), readRequest code params = some r ↔
    requestLengthsFit r = true ∧ code = requestCode r ∧ params = requestParams r)
  ∧ (∀ (code : Byte) (params : List Byte), (readRequest code params).isSome = true ↔
    (code = 0x01 ∧ params.length = 19) ∨ (code = 0x02 ∧ params.length = 2)
    ∨ (code = 0x03 ∧ params.length = 12)
    ∨ (code = 0x04 ∧ ∃ k, 1 ≤ k ∧ k ≤ 48 ∧ params.length = 1 + 4 * k)
    ∨ (code = 0x05 ∧ params.length = 4) ∨ (code = 0x06 ∧ params.length = 3)
    ∨ (code = 0x10 ∧ params.length = 10)
    ∨ (code = 0x11 ∧ ∃ k, 1 ≤ k ∧ k ≤ 60 ∧ params.length = 3 * k)
    ∨ (code = 0x12 ∧ params.length = 1) ∨ (code = 0x13 ∧ params.length = 1)
    ∨ (code = 0x20 ∧ params.length = 0) ∨ (code = 0x21 ∧ params.length = 0)
    ∨ (code = 0x22 ∧ params.length = 3) ∨ (code = 0x23 ∧ params.length = 3)
    ∨ (code = 0x24 ∧ params.length = 1) ∨ (code = 0x25 ∧ params.length = 3)
    ∨ (code = 0x26 ∧ params.length = 0) ∨ (code = 0x30 ∧ params.length ≤ 1)
    ∨ (code = 0x31 ∧ params.length = 0) ∨ (code = 0x32 ∧ params.length = 0)
    ∨ (code = 0x33 ∧ params.length = 1))

/-! ### The lanes -/

/-- A packet that the receiver drops is counted and changes nothing else: BAD_PACKET, and a LINE or COMMAND term
longer than a good packet can be (R169; log entry 11). A COMMAND for another destination, 0 and the values above 31
among them, is forwarded unchanged and does nothing else (R130, R170). -/
def Obligations.ReceiverDropsAndForwards : Prop :=
  ((∀ (bytes : List Byte) (s : State), readPacket bytes = none →
    exec (.badPacket bytes) s = .next { s with badPackets := min (s.badPackets + 1) 65535 })
  ∧ (∀ (pixels : List Pixel) (s : State), 2048 < pixels.length →
    exec (.line pixels) s = .next { s with badPackets := min (s.badPackets + 1) 65535 })
  ∧ (∀ (time : Nat) (dest : Byte) (tag : Half) (code : Byte) (params : List Byte) (s : State),
    248 < params.length →
    exec (.command time dest tag code params) s = .next { s with badPackets := min (s.badPackets + 1) 65535 }))
  ∧ (∀ (time : Nat) (dest : Byte) (tag : Half) (code : Byte) (params : List Byte) (s : State),
    params.length ≤ 248 → dest ≠ 31 →
    ¬ (dest.toNat = s.address ∧ 1 ≤ s.address ∧ s.address ≤ 30) →
    exec (.command time dest tag code params) s = .next { s with
      down := { s.down with waiting := s.down.waiting ++ [.command dest tag code params] } })

/-- A CREDIT is consumed: its count is added to the send credits, which hold at 255, and nothing else changes; it
is not forwarded (R172). -/
def Obligations.CreditIsConsumed : Prop :=
  ∀ (count : Byte) (s : State), exec (.credit count) s
    = .next { s with up := { s.up with sendCredits := min (s.up.sendCredits + count.toNat) 255 } }

/-- A packet from below joins the relay buffer as it arrived, or is dropped and counted when 8 stand there (R160). A
send begins when none is in progress, a credit is there and a queue holds a packet; the turn decides between two
occupied queues and passes to the queue that did not send; a relay departure is owed back downstream. Otherwise
SEND_BEGIN changes nothing (log entry 1). SEND_END frees the output (R161, R163, R164). -/
def Obligations.UpLaneQueuesServeTheTurn : Prop :=
  (∀ (bytes : List Byte) (s : State),
    (s.up.relay.length < 8 →
      exec (.upLanePacket bytes) s = .next { s with up := { s.up with relay := s.up.relay ++ [bytes] } })
    ∧ (8 ≤ s.up.relay.length →
      exec (.upLanePacket bytes) s
        = .next { s with up := { s.up with relayOverflow := min (s.up.relayOverflow + 1) 65535 } }))
  ∧ (∀ s : State,
    (s.up.sending = none → 1 ≤ s.up.sendCredits →
      (∀ b rest, s.up.relay = b :: rest → (s.up.outbox = [] ∨ s.up.turn = .relay) →
        exec .sendBegin s = .next { s with up := { s.up with
          relay := rest
          sendCredits := s.up.sendCredits - 1
          creditsOwed := min (s.up.creditsOwed + 1) 255
          turn := .outbox
          sending := some (.relayed b) } })
      ∧ (∀ p rest, s.up.outbox = p :: rest → (s.up.relay = [] ∨ s.up.turn = .outbox) →
        exec .sendBegin s = .next { s with up := { s.up with
          outbox := rest
          sendCredits := s.up.sendCredits - 1
          turn := .relay
          sending := some (.own p) } }))
    ∧ (s.up.sending ≠ none ∨ s.up.sendCredits = 0 ∨ (s.up.relay = [] ∧ s.up.outbox = []) →
      exec .sendBegin s = .next s)
    ∧ exec .sendEnd s = .next { s with up := { s.up with sending := none } })

/-- At a gap the part's CREDIT goes first and carries all that is owed; a waiting packet is emitted, oldest first,
when nothing is owed; while a packet is being emitted, or while a CREDIT has to go first, the steps change nothing
(log entry 1). EMISSION_END makes the gap (R161, R171). -/
def Obligations.EmissionPutsCreditFirst : Prop :=
  ∀ s : State,
    (s.down.emitting = none → 0 < s.up.creditsOwed → s.up.creditsOwed ≤ 255 →
      ∃ c : Byte, c.toNat = s.up.creditsOwed ∧ exec .creditEmission s = .next { s with
        down := { s.down with emitting := some (.credit c) }
        up := { s.up with creditsOwed := 0 } })
    ∧ (∀ p rest, s.down.emitting = none → s.up.creditsOwed = 0 → s.down.waiting = p :: rest →
      exec .packetEmission s = .next { s with down := ⟨rest, some p⟩ })
    ∧ (s.down.emitting ≠ none → exec .creditEmission s = .next s ∧ exec .packetEmission s = .next s)
    ∧ (0 < s.up.creditsOwed → exec .packetEmission s = .next s)
    ∧ (s.up.creditsOwed = 0 → exec .creditEmission s = .next s)
    ∧ exec .emissionEnd s = .next { s with down := { s.down with emitting := none } }

/-- Unreserved packets: a reply or an enabled notice is admitted when the free slots exceed the reservation count
and is else dropped and counted; an admitted notice takes the lost count. Offers of several blocks that come together
are each admitted or dropped so, one after another, in an order that keeps each block's own; a choice between blocks
is counted in the model's own field (log entry 5), and nothing else changes (R156 to R159). -/
def Obligations.UnreservedPacketsNeedFreeRoom : Prop :=
  (∀ (u : UpLane) (r : Reply), u.offerReply r = u.afterReply r)
  ∧ (∀ (s : State) (o : Offer), s.offer o =
      if s.commands.config.mask.getLsbD (noticeNumber o.kind - 1) = true then
        { s with up := s.up.afterNotice s.address o.kind o.payload } else s)
  ∧ (∀ (s : State) (blocks : List (List Offer)), ∃ t, s.offerAll blocks = t
      ∧ t = { s with up := t.up, orderings := t.orderings } ∧ s.noticed t [] blocks)

/-! ### Arrival of commands -/

/-- An addressed command that fails the format check, or is an ENUMERATE, is refused unreserved with its length
and has no other effect; a broadcast that fails it is dropped, counted and forwarded unchanged (R131, R173). -/
def Obligations.FormatFailuresDoNothingElse : Prop :=
  (∀ (time : Nat) (dest : Byte) (tag : Half) (code : Byte) (params : List Byte) (s : State),
    params.length ≤ 248 → dest.toNat = s.address → 1 ≤ s.address → s.address ≤ 30 →
    (readRequest code params = none ∨ code = 0x33) →
    exec (.command time dest tag code params) s = .next { s with
      up := s.up.afterReply
        ⟨s.address, tag, code, .refusedFormat, false, none, [BitVec.ofNat 8 params.length]⟩ })
  ∧ (∀ (time : Nat) (tag : Half) (code : Byte) (params : List Byte) (s : State),
    params.length ≤ 248 →
    (readRequest code params = none ∨ (code ≠ 0x20 ∧ code ≠ 0x22 ∧ code ≠ 0x32 ∧ code ≠ 0x33)) →
    exec (.command time 31 tag code params) s = .next { s with
      commands := { s.commands with drops := min (s.commands.drops + 1) 65535 }
      down := { s.down with waiting := s.down.waiting ++ [.command 31 tag code params] } })

/-- A tagged queued command whose tag is that of pending work is refused with REFUSED-TAG and the place of that
work, whatever its code (R134). One that is not pending and whose tag and code the reply cache holds is answered by
the cached reply with the replayed flag and the address as it stands (R135); that the header's cursor is replayed
with it is log entry 7. Nothing else changes: the command is not queued, and the cache stays. -/
def Obligations.RetransmissionsAreNotExecuted : Prop :=
  (∀ (time : Nat) (dest : Byte) (tag : Half) (code : Byte) (params : List Byte) (r : Request) (s : State),
    params.length ≤ 248 → dest.toNat = s.address → 1 ≤ s.address → s.address ≤ 30 →
    readRequest code params = some r → requestClass r ≠ .urgent → tag ≠ 0 →
    ((∃ e ∈ s.commands.queue, e.origin = .addressed tag) →
      exec (.command time dest tag code params) s = .next { s with
        up := s.up.afterReply ⟨s.address, tag, code, .refusedTag, false, none, [0]⟩ })
    ∧ ((∀ e ∈ s.commands.queue, e.origin ≠ .addressed tag) →
      ((∃ j ∈ s.writer.jobs, j.tag = tag) ∨ ∃ run, s.writer.running = some run ∧ run.tag = tag) →
      exec (.command time dest tag code params) s = .next { s with
        up := s.up.afterReply ⟨s.address, tag, code, .refusedTag, false, none, [1]⟩ }))
  ∧ (∀ (time : Nat) (dest : Byte) (tag : Half) (code : Byte) (params : List Byte) (r : Request) (c : CacheEntry)
    (s : State),
    params.length ≤ 248 → dest.toNat = s.address → 1 ≤ s.address → s.address ≤ 30 →
    readRequest code params = some r → requestClass r ≠ .urgent → tag ≠ 0 →
    ¬ s.hasPending tag → cacheTagsDistinct s.commands.cache →
    c ∈ s.commands.cache → c.tag = tag → c.code = code →
    exec (.command time dest tag code params) s = .next { s with
      up := s.up.afterReply ⟨s.address, tag, code, c.status, true, c.cursor, c.payload⟩ })

/-- A queued command that no tag check stops is refused with REFUSED-FULL when 16 entries stand in the queue,
accepted with a reservation when the outbox grants one, and else dropped without a reply and counted (R136,
R154, R157). -/
def Obligations.AcceptanceNeedsQueueAndReservation : Prop :=
  ∀ (time : Nat) (dest : Byte) (tag : Half) (code : Byte) (params : List Byte) (r : Request) (s : State),
    params.length ≤ 248 → dest.toNat = s.address → 1 ≤ s.address → s.address ≤ 30 →
    readRequest code params = some r → requestClass r ≠ .urgent →
    (tag = 0 ∨ (¬ s.hasPending tag ∧ ∀ c ∈ s.commands.cache, ¬ (c.tag = tag ∧ c.code = code))) →
    (16 ≤ s.commands.queue.length →
      exec (.command time dest tag code params) s = .next { s with
        commands := { s.commands with drops := min (s.commands.drops + 1) 65535 }
        up := s.up.afterReply ⟨s.address, tag, code, .refusedFull, false, none, []⟩ })
    ∧ (s.commands.queue.length < 16 → s.up.outbox.length + s.up.reserved < 32 →
      exec (.command time dest tag code params) s = .next { s with
        commands := { s.commands with queue := s.commands.queue ++ [⟨.addressed tag, r⟩] }
        up := { s.up with reserved := s.up.reserved + 1 } })
    ∧ (s.commands.queue.length < 16 → 32 ≤ s.up.outbox.length + s.up.reserved →
      exec (.command time dest tag code params) s = .next { s with
        up := { s.up with upDrops := min (s.up.upDrops + 1) 65535, lost := min (s.up.lost + 1) 255 } })

/-- A broadcast COMMIT or FADE joins the queue with no tag and no reservation, or is dropped and counted when the
queue is full; it is forwarded in either case (R69, R132, R173). ENUMERATE sets the address from its parameter and
offers the IDENTIFY content, with DONE for 1..30 and CHAIN-FULL for 31, and goes on with the parameter increased by
one for 1..30; any other parameter changes nothing here (R147, R174). -/
def Obligations.BroadcastsActAndPassOn : Prop :=
  (∀ (time : Nat) (tag : Half) (code : Byte) (params : List Byte) (r : Request) (s : State),
    readRequest code params = some r → (r = .commit ∨ ∃ target frames, r = .fade target frames) →
    (s.commands.queue.length < 16 →
      exec (.command time 31 tag code params) s = .next { s with
        commands := { s.commands with queue := s.commands.queue ++ [⟨.broadcast, r⟩] }
        down := { s.down with waiting := s.down.waiting ++ [.command 31 tag code params] } })
    ∧ (16 ≤ s.commands.queue.length →
      exec (.command time 31 tag code params) s = .next { s with
        commands := { s.commands with drops := min (s.commands.drops + 1) 65535 }
        down := { s.down with waiting := s.down.waiting ++ [.command 31 tag code params] } }))
  ∧ (∀ (time : Nat) (tag : Half) (a : Byte) (s : State),
    let on (b : Byte) : DownLane := { s.down with waiting := s.down.waiting ++ [.command 31 tag 0x33 [b]] }
    (1 ≤ a.toNat → a.toNat ≤ 30 →
      exec (.command time 31 tag 0x33 [a]) s = .next { s with
        address := a.toNat
        up := s.up.afterReply
          ⟨a.toNat, tag, 0x33, .done, false, none, [0x45, 0x18, 0x40, 3, 0x04, 0x00, 0x00, 8, 4, a]⟩
        down := on (a + 1) })
    ∧ (a = 31 →
      exec (.command time 31 tag 0x33 [a]) s = .next { s with
        address := 0
        up := s.up.afterReply
          ⟨0, tag, 0x33, .chainFull, false, none, [0x45, 0x18, 0x40, 3, 0x04, 0x00, 0x00, 8, 4, 0]⟩
        down := on 31 })
    ∧ (a = 0 ∨ 31 < a.toNat → exec (.command time 31 tag 0x33 [a]) s = .next { s with down := on a }))

/-- STATUS replies at once and unreserved with the items of Table 9-6 as they stand; flag 1 clears the six counters
after the reading and before the reply is offered; any flag but 0 and 1 is refused and clears nothing (R133,
R145, R146). -/
def Obligations.StatusReportsAndClears : Prop :=
  ∀ (time : Nat) (dest : Byte) (tag : Half) (s : State),
    dest.toNat = s.address → 1 ≤ s.address → s.address ≤ 30 →
    let report : List Byte :=
      [byte1 s.address,
       match s.tracker.state with | .freeRun => 0 | .inFrame => 1 | .betweenFrames => 2]
      ++ bytes2 s.tracker.frame.number.toNat ++ bytes2 s.tracker.frame.linesTaken
      ++ [if s.commitPending then 1 else 0, byte1 s.fade.level, byte1 s.fade.target,
          if s.store.progress < 262144 then 2 else if s.writer.running.isSome then 1 else 0,
          byte1 (s.writer.jobs.length + if s.writer.running.isSome then 1 else 0),
          byte1 s.commands.queue.length, byte1 s.up.outbox.length, byte1 s.up.sendCredits]
      ++ bytes2 s.badPackets ++ bytes2 s.tracker.strays ++ bytes2 s.tracker.framesCut ++ bytes2 s.commands.drops
      ++ bytes2 s.up.upDrops ++ bytes2 s.up.relayOverflow
    (∀ params, params = [] ∨ params = [0] →
      exec (.command time dest tag 0x30 params) s = .next { s with
        up := s.up.afterReply ⟨s.address, tag, 0x30, .done, false, none, report⟩ })
    ∧ exec (.command time dest tag 0x30 [1]) s = .next { s with
        badPackets := 0
        tracker := { s.tracker with strays := 0, framesCut := 0 }
        commands := { s.commands with drops := 0 }
        up := ({ s.up with upDrops := 0, relayOverflow := 0 } : UpLane).afterReply
          ⟨s.address, tag, 0x30, .done, false, none, report⟩ }
    ∧ (∀ f : Byte, f ≠ 0 → f ≠ 1 →
      exec (.command time dest tag 0x30 [f]) s = .next { s with
        up := s.up.afterReply ⟨s.address, tag, 0x30, .refusedRange, false, none, [1]⟩ })

/-- CANCEL ends the running job and every waiting job with CANCELLED, each reply in its own reservation and, when
tagged, in the cache, the running job's first and then the waiting jobs' from oldest to newest; its own unreserved
reply follows. Window, cursor, allowance, clear, entries and command queue stay (R97, R98, R148, Table 6-5). -/
def Obligations.CancelEndsEveryJob : Prop :=
  ∀ (time : Nat) (dest : Byte) (tag : Half) (s : State),
    dest.toNat = s.address → 1 ≤ s.address → s.address ≤ 30 →
    let running : List Reply := match s.writer.running with
      | none => []
      | some ⟨tag, .write _ written⟩ =>
        [⟨s.address, tag, 0x11, .cancelled, false, s.writer.cursor, bytes2 written ++ [0, 0]⟩]
      | some ⟨tag, .fill _ _ written⟩ => [⟨s.address, tag, 0x12, .cancelled, false, none, bytes3 written⟩]
      | some ⟨tag, .read _ got⟩ => [⟨s.address, tag, 0x13, .cancelled, false, s.writer.cursor, got⟩]
    let waiting : List Reply := s.writer.jobs.map (fun j => match j.work with
      | .window _ => ⟨s.address, j.tag, 0x10, .cancelled, false, none, [0, 0, 0]⟩
      | .write _ => ⟨s.address, j.tag, 0x11, .cancelled, false, none, [0, 0, 0, 0]⟩
      | .fill _ => ⟨s.address, j.tag, 0x12, .cancelled, false, none, [0, 0, 0]⟩
      | .read _ => ⟨s.address, j.tag, 0x13, .cancelled, false, none, []⟩)
    let remembered : List CacheEntry := (running ++ waiting).foldl (fun cache r =>
      if r.tag = 0 then cache else cacheInsert cache ⟨r.tag, r.code, r.status, r.cursor, r.payload⟩) s.commands.cache
    exec (.command time dest tag 0x31 []) s = .next { s with
      writer := { s.writer with jobs := [], running := none }
      commands := { s.commands with cache := remembered }
      up := ({ s.up with
          outbox := s.up.outbox ++ (running ++ waiting).map .reply
          reserved := s.up.reserved - (running ++ waiting).length } : UpLane).afterReply
        ⟨s.address, tag, 0x31, .done, false, none,
          [if s.writer.running.isSome then 1 else 0, byte1 s.writer.jobs.length]⟩ }

/-- RESET-PART: panes, markers, fade engine, command unit and configuration take their power-on values, commit
pending is cleared, jobs, window, cursor, outbox, reservation and lost count go, everything else is kept; an
addressed one is the first packet of the emptied outbox, a broadcast is forwarded. Then the loss timer is compared
with the interval of 100 ms, as LOSS_TIMER_EXPIRY does (that order is log entry 9); the second and fourth clauses
are the case that it has not run so long (R18, R53, R65, R79, R100, R114, R121, R129, R149, R165, R171, R173). -/
def Obligations.ResetPartResetsTheBlocks : Prop :=
  ∀ (time : Nat) (tag : Half) (s : State),
    let r : State := { s with
      panes := State.reset.panes
      fade := State.reset.fade
      commitPending := false
      writer := ⟨none, none, [], none, s.writer.allowance⟩
      markers := State.reset.markers
      commands := State.reset.commands
      up := { s.up with outbox := [], reserved := 0, lost := 0 } }
    let addressed : State := { r with up := { r.up with
      outbox := [.reply ⟨s.address, tag, 0x32, .done, false, none, []⟩] } }
    let broadcast : State := { r with down := { s.down with
      waiting := s.down.waiting ++ [.command 31 tag 0x32 []] } }
    let quiet : Prop := ∀ t0, s.tracker.lossStart = some t0 → time < t0 + 100000
    (∀ dest : Byte, dest.toNat = s.address → 1 ≤ s.address → s.address ≤ 30 →
      exec (.command time dest tag 0x32 []) s = exec (.lossTimerExpiry time) addressed
      ∧ (quiet → exec (.command time dest tag 0x32 []) s = .next addressed))
    ∧ exec (.command time 31 tag 0x32 []) s = exec (.lossTimerExpiry time) broadcast
    ∧ (quiet → exec (.command time 31 tag 0x32 []) s = .next broadcast)

/-- A reply enters the cache as the newest entry: in place of the entry of its tag, else in place of the oldest
when 8 are held; the cache stays within 8 entries of distinct nonzero tags (R142). -/
def Obligations.ReplyCacheKeepsNewestOfEachTag : Prop :=
  ∀ (cache : List CacheEntry) (e : CacheEntry), cache.length ≤ 8 → cacheTagsDistinct cache → e.tag ≠ 0 →
    ((∃ c ∈ cache, c.tag = e.tag) →
      cacheInsert cache e = cache.filter (fun c => decide (c.tag ≠ e.tag)) ++ [e])
    ∧ ((∀ c ∈ cache, c.tag ≠ e.tag) → cache.length = 8 → cacheInsert cache e = cache.tail ++ [e])
    ∧ ((∀ c ∈ cache, c.tag ≠ e.tag) → cache.length < 8 → cacheInsert cache e = cache ++ [e])
    ∧ (cacheInsert cache e).length ≤ 8 ∧ cacheTagsDistinct (cacheInsert cache e)

/-! ### The head of the command queue -/

/-- A held head waits: a staging command while a commit is pending, a store command while 4 jobs wait (R74, R87,
R139). A step that is not due is not taken (log entry 1): a queued command that is not the head, a pace step without
work or allowance, an expiry before the loss interval has run, an internal line before its slot has ended or of
the other kind of slot or without a generator, a BAD_PACKET of good bytes. Nothing changes. -/
def Obligations.HeldOrUndueStepsChangeNothing : Prop :=
  (∀ (c : Instr) (s : State) (e : Entry) (rest : List Entry),
    s.commands.queue = e :: rest → executes c e.request = true →
    ((requestClass e.request = .staging ∧ s.commitPending = true)
      ∨ (requestClass e.request = .store ∧ 4 ≤ s.writer.jobs.length)) →
    exec c s = .next s)
  ∧ ((∀ (c : Instr) (s : State), runsAtHead c = true →
    (∀ e rest, s.commands.queue = e :: rest → executes c e.request = false) → exec c s = .next s)
  ∧ (∀ s : State, (262144 ≤ s.store.progress ∧ s.writer.running = none) ∨ s.writer.allowance = 0 →
    exec .paceStep s = .next s)
  ∧ (∀ (time : Nat) (s : State),
    (∀ t0, s.tracker.lossStart = some t0 → time < t0 + s.commands.config.lossInterval * 1000) →
    exec (.lossTimerExpiry time) s = .next s)
  ∧ (∀ (time : Nat) (s : State),
    (∀ g, s.tracker.generator = some g →
      time * (s.tracker.frame.lines.getD 0 + g.blanks)
        < g.start * (s.tracker.frame.lines.getD 0 + g.blanks) + (g.slot + 1) * g.period) →
    exec (.internalActiveLine time) s = .next s ∧ exec (.internalBlankingLine time) s = .next s)
  ∧ (∀ (time : Nat) (s : State) (g : Generator), s.tracker.generator = some g →
    (s.tracker.frame.lines.getD 0 ≤ g.slot → exec (.internalActiveLine time) s = .next s)
    ∧ (g.slot < s.tracker.frame.lines.getD 0 → exec (.internalBlankingLine time) s = .next s))
  ∧ (∀ (bytes : List Byte) (p : DownPacket) (s : State), readPacket bytes = some p →
    exec (.badPacket bytes) s = .next s))

/-- PANE-SET at a head that is not held: the checks of Table 1-4 in order; refused, nothing but the queue and the
reply changes; done, the shadow record of the pane takes the parameters, keeps its state, and keeps its scroll
descriptor and requested offset unless width or height changes (R9 to R12). -/
def Obligations.PaneSetWritesTheShadowRecord : Prop :=
  ∀ (s : State) (e : Entry) (rest : List Entry) (p : PaneSetParams),
    s.commands.queue = e :: rest → e.request = .paneSet p → s.commitPending = false →
    ∃ t, exec .paneSet s = .next t
      ∧ t = { s with panes := t.panes, commands := t.commands, up := t.up }
      ∧ match firstFailed
          [decide (7 < p.pane.toNat),
           decide (2047 < p.screenX.toNat ∨ 2047 < p.screenY.toNat),
           decide (p.width = 0 ∨ 2048 < p.width.toNat ∨ p.height = 0 ∨ 2048 < p.height.toNat),
           decide (p.stride.toNat < p.width.toNat ∨ 2048 < p.stride.toNat),
           decide ((p.hscale ≠ 1 ∧ p.hscale ≠ 2) ∨ (p.vscale ≠ 1 ∧ p.vscale ≠ 2)),
           decide (16 < p.opacity.toNat),
           decide (p.keyPresent ≠ 0 ∧ p.keyPresent ≠ 1),
           decide (262143 < p.base.toNat),
           decide (262143 < p.base.toNat + (p.height.toNat - 1) * p.stride.toNat + p.width.toNat - 1)] with
        | some k => t.panes = s.panes ∧ s.answered t e .refusedRange none [byte1 k, p.pane]
        | none =>
          t.panes.active = s.panes.active
          ∧ ∀ i : Fin 8,
            (i.val ≠ p.pane.toNat → t.panes.shadow[i] = s.panes.shadow[i])
            ∧ (i.val = p.pane.toNat →
              let old := s.panes.shadow[i]
              let changed := old.fields.width ≠ p.width.toNat ∨ old.fields.height ≠ p.height.toNat
              t.panes.shadow[i] =
                ⟨⟨old.fields.on, p.screenX.toNat, p.screenY.toNat, p.base.toNat, p.stride.toNat, p.width.toNat,
                  p.height.toNat, p.hscale.toNat, p.vscale.toNat, p.opacity.toNat,
                  if p.keyPresent = 1 then some p.key else none,
                  if changed then ⟨.none, 0, 0, 0, 0⟩ else old.fields.scroll⟩,
                 if changed then none else old.requested⟩
              ∧ s.answered t e .done none
                [p.pane, if changed ∧ old.fields.scroll.axis ≠ .none then 1 else 0])

/-- PANE-STATE at a head that is not held: two checks in order; done, each selected pane's shadow state is ON if
it is in the on set and OFF if not, every other shadow field stays, and the reply carries the eight shadow states
(R13, R14). -/
def Obligations.PaneStateSetsSelectedStates : Prop :=
  ∀ (s : State) (e : Entry) (rest : List Entry) (select on : Byte),
    s.commands.queue = e :: rest → e.request = .paneState select on → s.commitPending = false →
    ∃ t, exec .paneState s = .next t
      ∧ t = { s with panes := t.panes, commands := t.commands, up := t.up }
      ∧ match firstFailed
          [decide (select = 0), decide (∃ i : Fin 8, on.getLsbD i.val = true ∧ select.getLsbD i.val = false)] with
        | some k => t.panes = s.panes ∧ s.answered t e .refusedRange none [byte1 k]
        | none =>
          t.panes.active = s.panes.active
          ∧ (∀ i : Fin 8, t.panes.shadow[i] = ⟨{ s.panes.shadow[i].fields with
              on := if select.getLsbD i.val then on.getLsbD i.val else s.panes.shadow[i].fields.on },
              s.panes.shadow[i].requested⟩)
          ∧ ∃ states : Byte, (∀ i : Fin 8, states.getLsbD i.val = t.panes.shadow[i].fields.on)
            ∧ s.answered t e .done none [states]

/-- PANE-SCROLL at a head that is not held: the checks of Table 3-4 in order, 3 to 8 not applied with axis NONE;
done, the shadow descriptor and requested offset of the pane are written, all else stays, and the restart flag
compares the written geometry with the active one (R45 to R47). -/
def Obligations.PaneScrollWritesTheDescriptor : Prop :=
  ∀ (s : State) (e : Entry) (rest : List Entry) (p : PaneScrollParams),
    s.commands.queue = e :: rest → e.request = .paneScroll p → s.commitPending = false →
    ∃ t, exec .paneScroll s = .next t
      ∧ t = { s with panes := t.panes, commands := t.commands, up := t.up }
      ∧ (7 < p.pane.toNat → t.panes = s.panes ∧ s.answered t e .refusedRange none [1, p.pane])
      ∧ ∀ i : Fin 8, i.val = p.pane.toNat →
        let old := s.panes.shadow[i]
        let scrolls := p.axis ≠ 0
        match firstFailed
          [false,
           decide (2 < p.axis.toNat),
           decide (scrolls ∧ (p.rate.toInt < -8 ∨ 8 < p.rate.toInt)),
           decide (scrolls ∧ p.requestedPresent ≠ 0 ∧ p.requestedPresent ≠ 1),
           decide (scrolls ∧ (2048 < p.lead.toNat ∨ 2048 < p.band.toNat ∨ 2048 < p.trail.toNat)),
           decide (scrolls ∧ p.band = 0),
           decide (scrolls ∧ p.lead.toNat + p.band.toNat + p.trail.toNat
             ≠ if p.axis = 1 then old.fields.height else old.fields.width),
           decide (scrolls ∧ p.requestedPresent = 1 ∧ p.band.toNat ≤ p.requested.toNat)] with
        | some k => t.panes = s.panes ∧ s.answered t e .refusedRange none [byte1 k, p.pane]
        | none =>
          let new : Scroll :=
            if p.axis = 0 then ⟨.none, 0, 0, 0, 0⟩
            else ⟨if p.axis = 1 then .vertical else .horizontal, p.lead.toNat, p.band.toNat, p.trail.toNat,
              p.rate.toInt⟩
          let current := s.panes.active[i].fields.scroll
          t.panes.active = s.panes.active
          ∧ (∀ j : Fin 8, j ≠ i → t.panes.shadow[j] = s.panes.shadow[j])
          ∧ t.panes.shadow[i] = ⟨{ old.fields with scroll := new },
              if scrolls ∧ p.requestedPresent = 1 then some p.requested.toNat else none⟩
          ∧ s.answered t e .done none
            [p.pane, if new.axis = current.axis ∧ new.lead = current.lead ∧ new.band = current.band
              ∧ new.trail = current.trail then 0 else 1]

/-- PALETTE-LOAD at a head that is not held: two checks in order, the second naming the first faulty position;
done, exactly the run of shadow entries takes the list, and the active palette and both backgrounds stay (R58). -/
def Obligations.PaletteLoadWritesTheRun : Prop :=
  ∀ (s : State) (e : Entry) (rest : List Entry) (first : Byte) (entries : List PaletteEntry),
    s.commands.queue = e :: rest → e.request = .paletteLoad first entries → s.commitPending = false →
    ∃ t, exec .paletteLoad s = .next t
      ∧ t = { s with palette := t.palette, commands := t.commands, up := t.up }
      ∧ (255 < first.toNat + entries.length - 1 →
        t.palette = s.palette ∧ s.answered t e .refusedRange none [1, 0])
      ∧ (first.toNat + entries.length - 1 ≤ 255 →
        match entries.findIdx? (fun x => decide (16 < x.opacity.toNat)) with
        | some position => t.palette = s.palette ∧ s.answered t e .refusedRange none [2, byte1 position]
        | none =>
          t.palette = { s.palette with shadow := t.palette.shadow }
          ∧ (∀ i : Fin 256, t.palette.shadow[i] =
              if i.val < first.toNat then s.palette.shadow[i]
              else (entries[i.val - first.toNat]?).getD s.palette.shadow[i])
          ∧ s.answered t e .done none [first, byte1 entries.length])

/-- MARKER-SET at a head that is not held: three checks in order; done, the shadow slot takes line and action, the
other slots, the active table and MARK stay, and the differs flag compares with the active slot (R124).
BACKGROUND-SET at a head that is not held writes the shadow background and nothing else, and completes with DONE and
the colour (R60). -/
def Obligations.MarkerAndBackgroundAreStaged : Prop :=
  (∀ (s : State) (e : Entry) (rest : List Entry) (slot : Byte) (line : Half) (action : Byte),
    s.commands.queue = e :: rest → e.request = .markerSet slot line action → s.commitPending = false →
    ∃ t, exec .markerSet s = .next t
      ∧ t = { s with markers := t.markers, commands := t.commands, up := t.up }
      ∧ match firstFailed
          [decide (3 < slot.toNat), decide (2047 < line.toNat), decide (3 < action.toNat)] with
        | some k => t.markers = s.markers ∧ s.answered t e .refusedRange none [byte1 k]
        | none =>
          let new : MarkerSlot := ⟨line.toNat,
            if action = 0 then .off else if action = 1 then .notice else if action = 2 then .pulse else .both⟩
          t.markers = { s.markers with shadow := t.markers.shadow }
          ∧ ∀ i : Fin 4,
            (i.val ≠ slot.toNat → t.markers.shadow[i] = s.markers.shadow[i])
            ∧ (i.val = slot.toNat → t.markers.shadow[i] = new
              ∧ s.answered t e .done none
                (slot :: bytes2 line.toNat ++ [action, if s.markers.active[i] = new then 0 else 1])))
  ∧ (∀ (s : State) (e : Entry) (rest : List Entry) (colour : Pixel),
    s.commands.queue = e :: rest → e.request = .backgroundSet colour → s.commitPending = false →
    ∃ t, exec .backgroundSet s = .next t
      ∧ t = { s with palette := { s.palette with shadowBackground := colour }, commands := t.commands, up := t.up }
      ∧ s.answered t e .done none [colour.red, colour.green, colour.blue])

/-- COMMIT at the head, held by nothing: commit pending is set and the reply tells whether it was; neither set
changes (R68, R69). DISCARD at the head, held by nothing: every shadow copy takes the active values, requested
offsets become absent, commit pending is cleared, the active set stays, and the reply carries the withdrawn flag
(R77). -/
def Obligations.CommitAndDiscardMoveTheFlag : Prop :=
  (∀ (s : State) (e : Entry) (rest : List Entry), s.commands.queue = e :: rest → e.request = .commit →
    ∃ t, exec .commit s = .next t
      ∧ t = { s with commitPending := true, commands := t.commands, up := t.up }
      ∧ s.answered t e .done none [if s.commitPending then 1 else 0])
  ∧ (∀ (s : State) (e : Entry) (rest : List Entry), s.commands.queue = e :: rest → e.request = .discard →
    ∃ t, exec .discard s = .next t
      ∧ t = { s with
          panes := t.panes
          palette := ⟨s.palette.active, s.palette.active, s.palette.activeBackground, s.palette.activeBackground⟩
          markers := { s.markers with shadow := s.markers.active }
          commitPending := false
          commands := t.commands
          up := t.up }
      ∧ t.panes.active = s.panes.active
      ∧ (∀ i : Fin 8, t.panes.shadow[i] = ⟨s.panes.active[i].fields, none⟩)
      ∧ s.answered t e .done none [if s.commitPending then 1 else 0])

/-- FADE at the head, held by nothing: two checks in order; done, a ramp starts from the level as it stands, which
does not change, and the reply carries start level, target, count and the replaced flag (R62). -/
def Obligations.FadeStartsARamp : Prop :=
  ∀ (s : State) (e : Entry) (rest : List Entry) (target : Byte) (frames : Half),
    s.commands.queue = e :: rest → e.request = .fade target frames →
    ∃ t, exec .fade s = .next t
      ∧ t = { s with fade := t.fade, commands := t.commands, up := t.up }
      ∧ match firstFailed [decide (16 < target.toNat), decide (255 < frames.toNat)] with
        | some k => t.fade = s.fade ∧ s.answered t e .refusedRange none [byte1 k]
        | none =>
          t.fade = ⟨s.fade.level, true, s.fade.level, target.toNat, frames.toNat, 0⟩
          ∧ s.answered t e .done none
            [byte1 s.fade.level, target, byte1 frames.toNat, if s.fade.ramp then 1 else 0]

/-- CONFIG at the head, held by nothing: two checks in order; done, all three items take the new values and the
reply carries them, and the running loss timer is then compared with the new interval as LOSS_TIMER_EXPIRY does
(that order is log entry 9); the last clause is the case that it has not run so long (R114, R144). -/
def Obligations.ConfigTakesAllThreeItems : Prop :=
  ∀ (time : Nat) (s : State) (e : Entry) (rest : List Entry) (freeRun interval mask : Byte),
    s.commands.queue = e :: rest → e.request = .config freeRun interval mask →
    ∃ t, match firstFailed
        [decide (freeRun ≠ 0 ∧ freeRun ≠ 1), decide (interval.toNat < 20 ∨ 250 < interval.toNat)] with
      | some k =>
        exec (.config time) s = .next t
        ∧ t = { s with commands := t.commands, up := t.up }
        ∧ s.answered t e .refusedRange none [byte1 k]
      | none =>
        let new : State := { s with commands := { s.commands with
          config := ⟨decide (freeRun = 1), interval.toNat, mask⟩ } }
        t = { s with commands := t.commands, up := t.up }
        ∧ new.answered t e .done none [freeRun, interval, mask]
        ∧ exec (.config time) s = exec (.lossTimerExpiry time) t
        ∧ ((∀ t0, s.tracker.lossStart = some t0 → time < t0 + interval.toNat * 1000) →
            exec (.config time) s = .next t)

/-- QUERY-PANE, QUERY-PALETTE and IDENTIFY at the head, held by nothing, change nothing but the queue and the reply,
and report what they name as it stands (R15, R59, R147, Tables 1-6, 11-9 and 11-11). -/
def Obligations.QueriesReportAndChangeNothing : Prop :=
  ∀ (s : State) (e : Entry) (rest : List Entry), s.commands.queue = e :: rest →
    (∀ pane : Byte, e.request = .queryPane pane →
      ∃ t, exec .queryPane s = .next t ∧ t = { s with commands := t.commands, up := t.up }
        ∧ (7 < pane.toNat → s.answered t e .refusedRange none [1])
        ∧ ∀ i : Fin 8, i.val = pane.toNat →
          let report (p : PaneRec) : List Byte :=
            [if p.on then 1 else 0] ++ bytes2 p.screenX ++ bytes2 p.screenY ++ bytes3 p.base ++ bytes2 p.stride
            ++ bytes2 p.width ++ bytes2 p.height ++ [byte1 p.hscale, byte1 p.vscale, byte1 p.opacity]
            ++ [if p.key.isSome then 1 else 0, p.key.getD 0]
            ++ [match p.scroll.axis with | .none => 0 | .vertical => 1 | .horizontal => 2]
            ++ bytes2 p.scroll.lead ++ bytes2 p.scroll.band ++ bytes2 p.scroll.trail
            ++ [BitVec.ofInt 8 p.scroll.rate]
          s.answered t e .done none
            ([pane, if s.panes.shadow[i].fields = s.panes.active[i].fields then 0 else 1]
              ++ report s.panes.shadow[i].fields
              ++ [if s.panes.shadow[i].requested.isSome then 1 else 0]
              ++ bytes2 (s.panes.shadow[i].requested.getD 0)
              ++ report s.panes.active[i].fields ++ bytes2 s.panes.active[i].offset))
    ∧ (∀ first count copy : Byte, e.request = .queryPalette first count copy →
      ∃ t, exec .queryPalette s = .next t ∧ t = { s with commands := t.commands, up := t.up }
        ∧ match firstFailed
            [decide (count = 0 ∨ 48 < count.toNat), decide (255 < first.toNat + count.toNat - 1),
             decide (copy ≠ 0 ∧ copy ≠ 1)] with
          | some k => s.answered t e .refusedRange none [byte1 k]
          | none => ∃ entries : List PaletteEntry,
            entries.length = count.toNat
            ∧ (∀ i : Fin 256, first.toNat ≤ i.val → i.val < first.toNat + count.toNat →
              entries[i.val - first.toNat]?
                = some (if copy = 0 then s.palette.shadow[i] else s.palette.active[i]))
            ∧ s.answered t e .done none
              ([first, count, copy] ++ entries.flatMap (fun x => [x.red, x.green, x.blue, x.opacity])))
    ∧ (e.request = .identify →
      ∃ t, exec .identify s = .next t ∧ t = { s with commands := t.commands, up := t.up }
        ∧ s.answered t e .done none [0x45, 0x18, 0x40, 3, 0x04, 0x00, 0x00, 8, 4, byte1 s.address])

/-! ### The index store and the store writer -/

/-- A store command at a head that is not held leaves the command queue and joins the end of the job queue with its
tag; while the clear or a job runs nothing else changes, its reservation and the reservation count among it (R86,
R87). -/
def Obligations.StoreCommandsBecomeJobs : Prop :=
  ∀ (c : Instr) (s : State) (tag : Half) (r : Request) (k : Work) (rest : List Entry),
    executes c r = true → storeWork r = some k → s.commands.queue = ⟨.addressed tag, r⟩ :: rest →
    s.writer.jobs.length < 4 → (s.store.progress < 262144 ∨ s.writer.running ≠ none) →
    exec c s = .next { s with
      commands := { s.commands with queue := rest }
      writer := { s.writer with jobs := s.writer.jobs ++ [⟨tag, k⟩] } }

/-- WINDOW handed to an idle store writer: the checks of Table 6-2 in order; refused, window and cursor stay; done,
the window takes the five values, the cursor is (0, 0), and the reply carries the number of positions (R85). WRITE,
FILL and READ handed to it: a failed range check, an absent window and an exhausted cursor end the job at once, with
the reply of Table 6-5 and the window and cursor as they were; else the job runs, a FILL with the cursor at (0, 0)
(R86, R88, R93 to R96). No allowance is spent (R90). The number 1 in the range refusals is log entry 8. -/
def Obligations.IdleWriterTakesJobs : Prop :=
  (∀ (s : State) (tag : Half) (p : WindowParams) (rest : List Entry),
    s.commands.queue = ⟨.addressed tag, .window p⟩ :: rest →
    262144 ≤ s.store.progress → s.writer.running = none → s.writer.jobs = [] →
    ∃ t, exec .window s = .next t
      ∧ t = { s with writer := t.writer, commands := t.commands, up := t.up }
      ∧ match firstFailed
          [decide (p.width = 0 ∨ 2048 < p.width.toNat ∨ p.height = 0 ∨ 2048 < p.height.toNat),
           decide (p.stride.toNat < p.width.toNat ∨ 2048 < p.stride.toNat),
           decide (p.order ≠ 0 ∧ p.order ≠ 1),
           decide (262143 < p.base.toNat),
           decide (262143 < p.base.toNat + (p.height.toNat - 1) * p.stride.toNat + p.width.toNat - 1)] with
        | some k =>
          t.writer = s.writer
          ∧ s.answered t ⟨.addressed tag, .window p⟩ .refusedRange none [byte1 k]
        | none =>
          t.writer = { s.writer with
            window := some ⟨p.base.toNat, p.stride.toNat, p.width.toNat, p.height.toNat,
              if p.order = 0 then .rowFirst else .columnFirst⟩
            cursor := some (.pos 0 0) }
          ∧ s.answered t ⟨.addressed tag, .window p⟩ .done none (bytes3 (p.width.toNat * p.height.toNat)))
  ∧ (∀ (s : State) (tag : Half) (rest : List Entry),
    262144 ≤ s.store.progress → s.writer.running = none → s.writer.jobs = [] →
    (∀ runs : List Run, s.commands.queue = ⟨.addressed tag, .write runs⟩ :: rest → runs ≠ [] →
      (∀ i, runs.findIdx? (fun r => decide (r.count = 0 ∨ 256 < r.count.toNat)) = some i →
        ∃ t, exec .write s = .next t ∧ t = { s with commands := t.commands, up := t.up }
          ∧ s.answered t ⟨.addressed tag, .write runs⟩ .refusedRange none [1, byte1 i])
      ∧ ((∀ r ∈ runs, 1 ≤ r.count.toNat ∧ r.count.toNat ≤ 256) →
        (s.writer.window = none →
          ∃ t, exec .write s = .next t ∧ t = { s with commands := t.commands, up := t.up }
            ∧ s.answered t ⟨.addressed tag, .write runs⟩ .refusedNoWindow none [])
        ∧ (s.writer.window ≠ none → s.writer.cursor = some .exhausted →
          ∃ t, exec .write s = .next t ∧ t = { s with commands := t.commands, up := t.up }
            ∧ s.answered t ⟨.addressed tag, .write runs⟩ .done (some .exhausted)
              ([0, 0] ++ bytes2 (runs.map (fun r => r.count.toNat)).sum))
        ∧ (s.writer.window ≠ none → s.writer.cursor ≠ some .exhausted →
          exec .write s = .next { s with
            commands := { s.commands with queue := rest }
            writer := { s.writer with
              running := some ⟨tag, .write (runs.map (fun r => (r.value, r.count.toNat))) 0⟩ } })))
    ∧ (∀ value : Byte, s.commands.queue = ⟨.addressed tag, .fill value⟩ :: rest →
      (s.writer.window = none →
        ∃ t, exec .fill s = .next t ∧ t = { s with commands := t.commands, up := t.up }
          ∧ s.answered t ⟨.addressed tag, .fill value⟩ .refusedNoWindow none [])
      ∧ (∀ win, s.writer.window = some win →
        exec .fill s = .next { s with
          commands := { s.commands with queue := rest }
          writer := { s.writer with cursor := some (.pos 0 0), running := some ⟨tag, .fill value win 0⟩ } }))
    ∧ (∀ count : Byte, s.commands.queue = ⟨.addressed tag, .read count⟩ :: rest →
      (count = 0 ∨ 240 < count.toNat →
        ∃ t, exec .read s = .next t ∧ t = { s with commands := t.commands, up := t.up }
          ∧ s.answered t ⟨.addressed tag, .read count⟩ .refusedRange none [1])
      ∧ (1 ≤ count.toNat → count.toNat ≤ 240 →
        (s.writer.window = none →
          ∃ t, exec .read s = .next t ∧ t = { s with commands := t.commands, up := t.up }
            ∧ s.answered t ⟨.addressed tag, .read count⟩ .refusedNoWindow none [])
        ∧ (s.writer.window ≠ none → s.writer.cursor = some .exhausted →
          ∃ t, exec .read s = .next t ∧ t = { s with commands := t.commands, up := t.up }
            ∧ s.answered t ⟨.addressed tag, .read count⟩ .done (some .exhausted) [])
        ∧ (s.writer.window ≠ none → s.writer.cursor ≠ some .exhausted →
          exec .read s = .next { s with
            commands := { s.commands with queue := rest }
            writer := { s.writer with running := some ⟨tag, .read count.toNat []⟩ } }))))

/-- The cursor advances by Table 6-1, and so from (0, 0) visits every position of the window once, row by row or
column by column, before it becomes and stays EXHAUSTED (R84). -/
def Obligations.CursorVisitsEveryPositionOnce : Prop :=
  ∀ w : Window, 1 ≤ w.width → 1 ≤ w.height →
    (∀ column row : Nat, column < w.width → row < w.height → w.advance column row =
      match w.order with
      | .rowFirst =>
        if column < w.width - 1 then .pos (column + 1) row
        else if row < w.height - 1 then .pos 0 (row + 1) else .exhausted
      | .columnFirst =>
        if row < w.height - 1 then .pos column (row + 1)
        else if column < w.width - 1 then .pos (column + 1) 0 else .exhausted)
    ∧ (∀ k : Nat, (fun c : Cursor => match c with
        | .pos column row => w.advance column row
        | .exhausted => .exhausted)^[k] (.pos 0 0) = w.cursorAt k)
    ∧ ∀ column row : Nat, column < w.width → row < w.height →
        ∃ k, k < w.width * w.height ∧ w.cursorAt k = .pos column row
          ∧ ∀ j, j < w.width * w.height → w.cursorAt j = .pos column row → j = k

/-- A pace step of the start-up clear writes 0 to as many entries from the progress address on as the allowance
gives, and no other; when the progress reaches 262,144 CLEAR-DONE is offered, before any job that waits starts, and the
same pace step goes on from there with the head of the job queue and the allowance left over; with none waiting the
writer is idle (R81, R82, R90). -/
def Obligations.PaceStepClearsInOrder : Prop :=
  ∀ s : State, s.store.progress < 262144 → s.writer.running = none → 0 < s.writer.allowance →
    s.writer.inStore = true →
    (s.store.progress + s.writer.allowance < 262144 →
      ∃ t, exec .paceStep s = .next t
        ∧ t = { s with store := t.store, writer := { s.writer with allowance := 0 } }
        ∧ t.store.progress = s.store.progress + s.writer.allowance
        ∧ ∀ a, t.store.read a =
          if s.store.progress ≤ a ∧ a < s.store.progress + s.writer.allowance then 0 else s.store.read a)
    ∧ (262144 ≤ s.store.progress + s.writer.allowance →
      ∃ t, t = { s with
            store := t.store
            writer := { s.writer with allowance := s.writer.allowance - (262144 - s.store.progress) }
            up := s.afterNotices [⟨.clearDone, []⟩] }
        ∧ t.store.progress = 262144
        ∧ (∀ a, t.store.read a = if s.store.progress ≤ a ∧ a < 262144 then 0 else s.store.read a)
        ∧ s.paceGoesOnFrom t)

/-- A pace step of a FILL writes its value to the next entries of the captured footprint in the window's order, as
many as the allowance gives, and to no other; it does not move the cursor; when the last entry is written it ends
with DONE and width times height, and the same pace step goes on from there with the waiting jobs (R86, R90, R94,
R96). -/
def Obligations.PaceStepFillsTheFootprint : Prop :=
  ∀ (s : State) (tag : Half) (value : Byte) (win : Window) (written : Nat),
    262144 ≤ s.store.progress → s.writer.running = some ⟨tag, .fill value win written⟩ →
    s.writer.inStore = true → 0 < s.writer.allowance → s.store.wf →
    let m := min s.writer.allowance (win.width * win.height - written)
    ∃ t, t = { s with store := t.store, writer := t.writer, commands := t.commands, up := t.up }
      ∧ (∀ a, t.store.read a =
          if ∃ k, k < m ∧ win.entryAt (written + k) = a then value else s.store.read a)
      ∧ (if written + m < win.width * win.height then
          t.writer = { s.writer with running := some ⟨tag, .fill value win (written + m)⟩, allowance := 0 }
          ∧ t.commands = s.commands ∧ t.up = s.up
          ∧ exec .paceStep s = .next t
        else
          t.writer = { s.writer with running := none, allowance := s.writer.allowance - m }
          ∧ s.jobAnswered t tag 0x12 .done none (bytes3 (win.width * win.height))
          ∧ s.paceGoesOnFrom t)

/-- A pace step of a WRITE at the k-th position of the window lays its pixels down in list order along the window's
order, as many as the allowance and the window give, at no other entry; it ends with DONE when every pixel is
written or the cursor is EXHAUSTED, the rest discarded and counted, and the same pace step goes on from there with the
waiting jobs; else the WRITE goes on from the same point at the next pace step (R84, R86, R90, R92, R93, R96). -/
def Obligations.PaceStepWritesRunsAtTheCursor : Prop :=
  ∀ (s : State) (tag : Half) (left : List (Byte × Nat)) (written k : Nat) (win : Window),
    262144 ≤ s.store.progress → s.writer.running = some ⟨tag, .write left written⟩ →
    (∀ r ∈ left, 1 ≤ r.2) → left ≠ [] →
    s.writer.window = some win → win.valid = true → k < win.width * win.height →
    s.writer.cursor = some (win.cursorAt k) → 0 < s.writer.allowance → s.store.wf →
    let values := runValues left
    let m := min s.writer.allowance (min values.length (win.width * win.height - k))
    ∃ t, t = { s with store := t.store, writer := t.writer, commands := t.commands, up := t.up }
      ∧ (∀ j v, j < m → values[j]? = some v → t.store.read (win.entryAt (k + j)) = v)
      ∧ (∀ a, (∀ j, j < m → win.entryAt (k + j) ≠ a) → t.store.read a = s.store.read a)
      ∧ (if m < values.length ∧ k + m < win.width * win.height then
          (∃ left', runValues left' = values.drop m
            ∧ t.writer = { s.writer with
                cursor := some (win.cursorAt (k + m))
                running := some ⟨tag, .write left' (written + m)⟩
                allowance := 0 })
          ∧ t.commands = s.commands ∧ t.up = s.up
          ∧ exec .paceStep s = .next t
        else
          t.writer = { s.writer with
            cursor := some (win.cursorAt (k + m)), running := none, allowance := s.writer.allowance - m }
          ∧ s.jobAnswered t tag 0x11 .done (some (win.cursorAt (k + m)))
            (bytes2 (written + m) ++ bytes2 (values.length - m))
          ∧ s.paceGoesOnFrom t)

/-- A pace step of a READ at the k-th position of the window appends the entries along the window's order, as many as
the allowance, its count and the window give, and changes no entry; it ends with DONE when it has read its count or
the cursor is EXHAUSTED, and the same pace step goes on from there with the waiting jobs (R84, R86, R90, R95, R96). -/
def Obligations.PaceStepReadsAtTheCursor : Prop :=
  ∀ (s : State) (tag : Half) (left k : Nat) (got : List Byte) (win : Window),
    262144 ≤ s.store.progress → s.writer.running = some ⟨tag, .read left got⟩ → 1 ≤ left →
    s.writer.window = some win → win.valid = true → k < win.width * win.height →
    s.writer.cursor = some (win.cursorAt k) → 0 < s.writer.allowance →
    let m := min s.writer.allowance (min left (win.width * win.height - k))
    let list := got ++ (List.range m).map (fun j => s.store.read (win.entryAt (k + j)))
    ∃ t, t = { s with writer := t.writer, commands := t.commands, up := t.up }
      ∧ (if m < left ∧ k + m < win.width * win.height then
          t.writer = { s.writer with
            cursor := some (win.cursorAt (k + m)), running := some ⟨tag, .read (left - m) list⟩, allowance := 0 }
          ∧ t.commands = s.commands ∧ t.up = s.up
          ∧ exec .paceStep s = .next t
        else
          t.writer = { s.writer with
            cursor := some (win.cursorAt (k + m)), running := none, allowance := s.writer.allowance - m }
          ∧ s.jobAnswered t tag 0x13 .done (some (win.cursorAt (k + m))) list
          ∧ s.paceGoesOnFrom t)

/-- A pace step spends allowance until none is left, or until no work is: no clear, no running job and none waiting. It
touches only the index store, the writer, the reply cache and the outbox with its reservation and loss counts, and
adds packets to the outbox at its end alone (R80, R90). What the start of waiting jobs, `startNext`, does: with none
waiting the writer is idle; else the oldest leaves the queue and applies its checks (Tables 6-2 and 6-5). One that is
refused, a WINDOW, and a WRITE or READ that starts with the cursor EXHAUSTED end at once, with the reply built then and
the next job started from there, so that replies come in job order; any other runs. A job at its start costs no
allowance (R82, R85, R86, R88, R90, R93 to R96); the number 1 in the range refusals is log entry 8. -/
def Obligations.PaceStepSpendsTheAllowance : Prop :=
  (∀ s : State, (s.store.progress < 262144 ∨ s.writer.running ≠ none) → 0 < s.writer.allowance →
    s.writer.inStore = true →
    ∃ t packets, exec .paceStep s = .next t
      ∧ t = { s with
          store := t.store
          writer := t.writer
          up := { s.up with
            outbox := s.up.outbox ++ packets
            reserved := t.up.reserved
            lost := t.up.lost
            upDrops := t.up.upDrops }
          commands := { s.commands with cache := t.commands.cache } }
      ∧ t.writer.allowance ≤ s.writer.allowance
      ∧ (t.writer.allowance = 0
        ∨ (262144 ≤ t.store.progress ∧ t.writer.running = none ∧ t.writer.jobs = [])))
  ∧ (∀ s : State, s.writer.jobs = [] → s.startNext = { s with writer := { s.writer with running := none } })
  ∧ (∀ (s : State) (j : Job) (rest : List Job), s.writer.jobs = j :: rest →
    let refused (code : Byte) (status : Status) (payload : List Byte) : Prop :=
      s.startEnds j rest s.writer.window s.writer.cursor code status none payload
    let runs (cursor : Option Cursor) (p : Progress) : Prop := s.startNext = { s with
      writer := { s.writer with jobs := rest, cursor := cursor, running := some ⟨j.tag, p⟩ } }
    (∀ p, j.work = .window p →
      match firstFailed
          [decide (p.width = 0 ∨ 2048 < p.width.toNat ∨ p.height = 0 ∨ 2048 < p.height.toNat),
           decide (p.stride.toNat < p.width.toNat ∨ 2048 < p.stride.toNat),
           decide (p.order ≠ 0 ∧ p.order ≠ 1),
           decide (262143 < p.base.toNat),
           decide (262143 < p.base.toNat + (p.height.toNat - 1) * p.stride.toNat + p.width.toNat - 1)] with
      | some k => refused 0x10 .refusedRange [byte1 k]
      | none => s.startEnds j rest
          (some ⟨p.base.toNat, p.stride.toNat, p.width.toNat, p.height.toNat,
            if p.order = 0 then .rowFirst else .columnFirst⟩)
          (some (.pos 0 0)) 0x10 .done none (bytes3 (p.width.toNat * p.height.toNat)))
    ∧ (∀ list : List Run, j.work = .write list → list ≠ [] →
      match list.findIdx? (fun r => decide (r.count = 0 ∨ 256 < r.count.toNat)) with
      | some i => refused 0x11 .refusedRange [1, byte1 i]
      | none =>
        if s.writer.window = none then refused 0x11 .refusedNoWindow []
        else if s.writer.cursor = some .exhausted then
          s.startEnds j rest s.writer.window s.writer.cursor 0x11 .done (some .exhausted)
            ([0, 0] ++ bytes2 (list.map (fun r => r.count.toNat)).sum)
        else runs s.writer.cursor (.write (list.map (fun r => (r.value, r.count.toNat))) 0))
    ∧ (∀ value, j.work = .fill value →
      match s.writer.window with
      | none => refused 0x12 .refusedNoWindow []
      | some win => runs (some (.pos 0 0)) (.fill value win 0))
    ∧ (∀ count, j.work = .read count →
      if count = 0 ∨ 240 < count.toNat then refused 0x13 .refusedRange [1]
      else if s.writer.window = none then refused 0x13 .refusedNoWindow []
      else if s.writer.cursor = some .exhausted then
        s.startEnds j rest s.writer.window s.writer.cursor 0x13 .done (some .exhausted) []
      else runs s.writer.cursor (.read count.toNat [])))

/-! ### Video -/

/-- FRAME-OPEN in BETWEEN-FRAMES: a LOCKED or PASS-THROUGH frame opens, the frame start is taken, the loss timer
restarts, the packet is forwarded; COMMITTED and FADE-DONE are admitted to the outbox or dropped and counted (R102 to
R104, R111, R114, R156 to R159; the frame start's R29, R49, R50, R63, R71, R73). -/
def Obligations.FrameOpenStartsALockedFrame : Prop :=
  ∀ (time : Nat) (number width lines : Half) (s : State), s.tracker.state = .betweenFrames →
    ∃ t, exec (.frameOpen time number width lines) s = .next t
      ∧ t = { s with
          tracker := t.tracker, panes := t.panes, palette := t.palette, fade := t.fade
          commitPending := false, compositor := t.compositor, markers := t.markers
          up := t.up, down := t.down, orderings := t.orderings }
      ∧ t.tracker = { s.tracker with
          state := .inFrame
          frame := openedRecord time number width lines .betweenFrames s.tracker.blankCount s.tracker.prevOpen
          faults := ⟨0, 0, 0, 0, false⟩
          generator := none
          lossStart := some time
          prevOpen := some time
          blankCount := 0 }
      ∧ s.frameStarted t ∧ t.markers.mark = s.markers.mark
      ∧ t.down = { s.down with waiting := s.down.waiting ++ [.frameOpen number width lines] }
      ∧ s.noticed t [] (s.startNotices number t.fade.level)

/-- FRAME-OPEN in IN-FRAME: the open frame is cut, with short, the cut flag, frames-cut, MARK low, its reports and a
generated FRAME-CLOSE, and the new frame opens after it; each enabled notice is admitted or dropped and counted, the
blocks in any order (R30, R103, R105, R111, R120, R128, R156 to R159). -/
def Obligations.FrameOpenClosesAnOpenFrame : Prop :=
  ∀ (time : Nat) (number width lines : Half) (s : State), s.tracker.state = .inFrame →
    ∃ t, exec (.frameOpen time number width lines) s = .next t
      ∧ t = { s with
          tracker := t.tracker, panes := t.panes, palette := t.palette, fade := t.fade
          commitPending := false, compositor := t.compositor, markers := t.markers
          up := t.up, down := t.down, orderings := t.orderings }
      ∧ t.tracker = { s.tracker with
          state := .inFrame
          frame := openedRecord time number width lines .inFrame 0 s.tracker.prevOpen
          faults := ⟨0, 0, 0, 0, false⟩
          generator := none
          lossStart := some time
          prevOpen := some time
          blankCount := 0
          framesCut := min (s.tracker.framesCut + 1) 65535 }
      ∧ s.frameStarted t ∧ t.markers.mark = false
      ∧ t.down = { s.down with waiting := s.down.waiting
          ++ [.frameClose s.tracker.frame.number, .frameOpen number width lines] }
      ∧ s.noticed t [] (endNotices s.tracker.frame.number { s.tracker.endFaults with cut := true }
          s.compositor.overrun [] ++ s.startNotices number t.fade.level)

/-- FRAME-OPEN in FREE-RUN: the internal frame is truncated without a cut, with its reports and, if free-run output is
enabled, a FRAME-CLOSE; MARK goes low; the new frame opens and VIDEO-LOCKED is offered, after the tracker's
FRAME-FAULTS; each enabled notice is admitted or dropped and counted (R30, R106, R111, R119, R120, R128, R156 to
R159). -/
def Obligations.FrameOpenReacquiresTheInput : Prop :=
  ∀ (time : Nat) (number width lines : Half) (s : State), s.tracker.state = .freeRun →
    ∃ t, exec (.frameOpen time number width lines) s = .next t
      ∧ t = { s with
          tracker := t.tracker, panes := t.panes, palette := t.palette, fade := t.fade
          commitPending := false, compositor := t.compositor, markers := t.markers
          up := t.up, down := t.down, orderings := t.orderings }
      ∧ t.tracker = { s.tracker with
          state := .inFrame
          frame := openedRecord time number width lines .freeRun 0 s.tracker.prevOpen
          faults := ⟨0, 0, 0, 0, false⟩
          generator := none
          lossStart := some time
          prevOpen := some time
          blankCount := 0 }
      ∧ s.frameStarted t ∧ t.markers.mark = false
      ∧ t.down = { s.down with waiting := s.down.waiting
          ++ (if s.commands.config.freeRun then [.frameClose s.tracker.frame.number] else [])
          ++ [.frameOpen number width lines] }
      ∧ s.noticed t [] (endNotices s.tracker.frame.number s.tracker.faults s.compositor.overrun
          [⟨.videoLocked, bytes2 number.toNat⟩] ++ s.startNotices number t.fade.level)

/-- FRAME-CLOSE in IN-FRAME: short is recorded, the frame end reports, the packet is forwarded with the number it
carries, and the tracker passes to BETWEEN-FRAMES; the timing record is learned when every condition of R117 holds
and else stays. MARK, tables and the frame record stay. Each enabled notice is admitted or dropped and counted (R30,
R103, R109, R117, R120, R156 to R159). -/
def Obligations.FrameCloseEndsAndTeaches : Prop :=
  ∀ (number : Half) (s : State), s.tracker.state = .inFrame →
    ∃ t, exec (.frameClose number) s = .next t
      ∧ t = { s with tracker := t.tracker, up := t.up, down := t.down, orderings := t.orderings }
      ∧ t.tracker = { s.tracker with
          state := .betweenFrames
          faults := s.tracker.endFaults
          timing := match s.tracker.frame.width, s.tracker.frame.lines, s.tracker.frame.openTime,
              s.tracker.frame.periodBase with
            | some w, some h, some opened, some before =>
              if s.tracker.frame.kind = .locked ∧ s.tracker.frame.openedFrom = some .betweenFrames
                  ∧ s.tracker.frame.linesTaken = h ∧ s.tracker.faults.width = 0
                  ∧ s.tracker.frame.blanksBefore ≤ 1023
                  ∧ 4000 ≤ opened - before ∧ opened - before ≤ 250000 then
                ⟨w, h, s.tracker.frame.blanksBefore, opened - before⟩
              else s.tracker.timing
            | _, _, _, _ => s.tracker.timing }
      ∧ t.down = { s.down with waiting := s.down.waiting ++ [.frameClose number] }
      ∧ s.noticed t [] (endNotices s.tracker.frame.number s.tracker.endFaults s.compositor.overrun [])

/-- A LINE below H of an open LOCKED frame is composed over its arriving pixels up to the frame's width and forwarded
with its pixel count; the admission result and the overrun record are formed, a width fault is counted, markers fire,
their notices are admitted or dropped in slot order, MARK and the allowance of 1,024 are set (R19, R21, R27, R28, R36,
R89, R107, R125 to R127, R156 to R159). -/
def Obligations.LinesBelowHAreComposed : Prop :=
  ∀ (pixels : List Pixel) (s : State) (w h : Nat),
    pixels.length ≤ 2048 → s.tracker.state = .inFrame → s.tracker.frame.kind = .locked →
    s.tracker.frame.width = some w → s.tracker.frame.lines = some h → s.tracker.frame.linesTaken < h →
    s.panes.activeValid = true →
    let y := s.tracker.frame.linesTaken
    ∃ t out, exec (.line pixels) s = .next t
      ∧ t = { s with
          tracker := { s.tracker with
            frame := { s.tracker.frame with linesTaken := min (y + 1) 65535 }
            faults := if pixels.length = w then s.tracker.faults
              else { s.tracker.faults with width := min (s.tracker.faults.width + 1) 65535 } }
          compositor := ⟨admissionOf s.panes.active y w,
            s.compositor.overrun.afterLine y (admissionOf s.panes.active y w).skipped⟩
          markers := { s.markers with mark := s.marksLine y }
          writer := { s.writer with allowance := 1024 }
          up := s.afterNotices (s.markerNotices y)
          down := { s.down with waiting := s.down.waiting ++ [.line out] } }
      ∧ s.composesTo y w pixels out

/-- A LINE of an open PASS-THROUGH frame, and an excess LINE of a LOCKED frame, is forwarded with the pixels it
arrived with; it forms no admission result, fires no marker, sets MARK low and the allowance to 1,024; the excess
line is counted (R37, R38, R107). A BLANK in a locked state is forwarded, sets MARK low and the allowance to 4,096,
and is counted toward B in BETWEEN-FRAMES and as a stray in IN-FRAME (R108). A LINE or FRAME-CLOSE outside IN-FRAME
and a BLANK in FREE-RUN is a stray: it is discarded and counted, in FREE-RUN in the frame's faults too (R103, R110). -/
def Obligations.OtherVideoIsPassedOrDiscarded : Prop :=
  (∀ (pixels : List Pixel) (s : State), pixels.length ≤ 2048 → s.tracker.state = .inFrame →
    let next (faults : FrameFaults) : State := { s with
      tracker := { s.tracker with
        frame := { s.tracker.frame with linesTaken := min (s.tracker.frame.linesTaken + 1) 65535 }
        faults := faults }
      markers := { s.markers with mark := false }
      writer := { s.writer with allowance := 1024 }
      down := { s.down with waiting := s.down.waiting ++ [.line pixels] } }
    (s.tracker.frame.kind = .passThrough → exec (.line pixels) s = .next (next s.tracker.faults))
    ∧ (∀ w h, s.tracker.frame.kind = .locked → s.tracker.frame.width = some w →
      s.tracker.frame.lines = some h → h ≤ s.tracker.frame.linesTaken →
      exec (.line pixels) s = .next (next
        { s.tracker.faults with excess := min (s.tracker.faults.excess + 1) 65535 })))
  ∧ (∀ s : State,
    let lined (tracker : Tracker) : State := { s with
      tracker := tracker
      markers := { s.markers with mark := false }
      writer := { s.writer with allowance := 4096 }
      down := { s.down with waiting := s.down.waiting ++ [.blank] } }
    let strayed : Tracker := { s.tracker with strays := min (s.tracker.strays + 1) 65535 }
    let strayedInFrame : Tracker := { strayed with
      faults := { s.tracker.faults with strays := min (s.tracker.faults.strays + 1) 65535 } }
    (s.tracker.state = .betweenFrames →
      exec .blank s = .next (lined { s.tracker with blankCount := min (s.tracker.blankCount + 1) 65535 })
      ∧ (∀ pixels : List Pixel, pixels.length ≤ 2048 →
        exec (.line pixels) s = .next { s with tracker := strayed })
      ∧ ∀ number, exec (.frameClose number) s = .next { s with tracker := strayed })
    ∧ (s.tracker.state = .inFrame → exec .blank s = .next (lined strayedInFrame))
    ∧ (s.tracker.state = .freeRun →
      exec .blank s = .next { s with tracker := strayedInFrame }
      ∧ (∀ pixels : List Pixel, pixels.length ≤ 2048 →
        exec (.line pixels) s = .next { s with tracker := strayedInFrame })
      ∧ ∀ number, exec (.frameClose number) s = .next { s with tracker := strayedInFrame }))

/-- LOSS_TIMER_EXPIRY when the timer has run the loss interval: in IN-FRAME the open frame is truncated with its
reports, MARK low and a FRAME-CLOSE; in both locked states VIDEO-LOST is offered with the number of the internal frame
that begins, after FRAME-FAULTS of the cut frame, with its frame start and, if free-run output is enabled, its
FRAME-OPEN; each enabled notice is admitted or dropped and counted, the blocks in any order (R103, R111, R113 to R115,
R118 to R120, R128, R156 to R159). -/
def Obligations.LossOfVideoBeginsFreeRun : Prop :=
  ∀ (time t0 : Nat) (s : State), s.tracker.lossStart = some t0 →
    t0 + s.commands.config.lossInterval * 1000 ≤ time →
    let number := s.tracker.frame.number + 1
    let opened : List DownPacket := if s.commands.config.freeRun then
      [.frameOpen number (BitVec.ofNat 16 s.tracker.timing.width) (BitVec.ofNat 16 s.tracker.timing.lines)] else []
    (s.tracker.state = .inFrame ∨ s.tracker.state = .betweenFrames) →
    ∃ t, exec (.lossTimerExpiry time) s = .next t
      ∧ t = { s with
          tracker := t.tracker, panes := t.panes, palette := t.palette, fade := t.fade
          commitPending := false, compositor := t.compositor, markers := t.markers
          up := t.up, down := t.down, orderings := t.orderings }
      ∧ s.frameStarted t
      ∧ (s.tracker.state = .inFrame →
        t.tracker = { s.tracker.internalBegun time with framesCut := min (s.tracker.framesCut + 1) 65535 }
        ∧ t.markers.mark = false
        ∧ t.down = { s.down with waiting := s.down.waiting ++ [.frameClose s.tracker.frame.number] ++ opened }
        ∧ s.noticed t [] (endNotices s.tracker.frame.number { s.tracker.endFaults with cut := true }
            s.compositor.overrun [⟨.videoLost, bytes2 number.toNat⟩] ++ s.startNotices number t.fade.level))
      ∧ (s.tracker.state = .betweenFrames →
        t.tracker = s.tracker.internalBegun time
        ∧ t.markers.mark = s.markers.mark
        ∧ t.down = { s.down with waiting := s.down.waiting ++ opened }
        ∧ s.noticed t [] ([[⟨.videoLost, bytes2 number.toNat⟩]] ++ s.startNotices number t.fade.level))

/-- INTERNAL_ACTIVE_LINE at the end of active slot k: the line is composed over the active background and handed over
if free-run output is enabled; markers, MARK, allowance and records follow as for a locked line; after the last slot
(B = 0) the frame end and the next internal frame's start come at the instant the period ends. Each enabled notice is
admitted or dropped and counted, the markers' first (R35, R111, R113, R118 to R120, R125 to R127, R156 to R159). -/
def Obligations.InternalActiveLineIsComposed : Prop :=
  ∀ (time : Nat) (s : State) (g : Generator) (w h : Nat),
    s.tracker.generator = some g → s.tracker.frame.kind = .internal →
    s.tracker.frame.width = some w → s.tracker.frame.lines = some h → g.slot < h →
    g.start * (h + g.blanks) + (g.slot + 1) * g.period ≤ time * (h + g.blanks) →
    s.panes.activeValid = true →
    let y := g.slot
    let admission := admissionOf s.panes.active y w
    let overrun := s.compositor.overrun.afterLine y admission.skipped
    let number := s.tracker.frame.number + 1
    ∃ t out, exec (.internalActiveLine time) s = .next t
      ∧ s.composesTo y w (List.replicate w s.palette.activeBackground) out
      ∧ t.writer = { s.writer with allowance := 1024 }
      ∧ t.markers.mark = s.marksLine y
      ∧ (g.slot + 1 < h + g.blanks →
        t = { s with
          tracker := { s.tracker with
            frame := { s.tracker.frame with linesTaken := min (s.tracker.frame.linesTaken + 1) 65535 }
            generator := some { g with slot := g.slot + 1 } }
          compositor := ⟨admission, overrun⟩
          markers := { s.markers with mark := s.marksLine y }
          writer := t.writer
          up := s.afterNotices (s.markerNotices y)
          down := { s.down with waiting := s.down.waiting
            ++ (if s.commands.config.freeRun then [.line out] else []) } })
      ∧ (h + g.blanks ≤ g.slot + 1 →
        t = { s with
          tracker := s.tracker.internalBegun (g.start + g.period)
          panes := t.panes, palette := t.palette, fade := t.fade
          commitPending := false, compositor := t.compositor, markers := t.markers
          writer := t.writer, up := t.up, orderings := t.orderings
          down := { s.down with waiting := s.down.waiting ++ (if s.commands.config.freeRun then
            [.line out, .frameClose s.tracker.frame.number,
             .frameOpen number (BitVec.ofNat 16 s.tracker.timing.width)
               (BitVec.ofNat 16 s.tracker.timing.lines)] else []) } }
        ∧ State.frameStarted { s with compositor := ⟨admission, overrun⟩ } t
        ∧ s.noticed t (s.markerNotices y) (endNotices s.tracker.frame.number s.tracker.faults overrun []
            ++ s.startNotices number t.fade.level))

/-- INTERNAL_BLANKING_LINE at the end of a blanking slot: MARK low, the allowance 4,096 and, if free-run output is
enabled, a BLANK; after the last slot the frame end and the next internal frame's start come at the instant the period
ends, with their notices admitted or dropped and counted (R89, R111, R113, R118 to R120, R127, R156 to R159). -/
def Obligations.InternalBlankingLineIsTaken : Prop :=
  ∀ (time : Nat) (s : State) (g : Generator) (h : Nat),
    s.tracker.generator = some g → s.tracker.frame.lines = some h → h ≤ g.slot → g.slot < h + g.blanks →
    g.start * (h + g.blanks) + (g.slot + 1) * g.period ≤ time * (h + g.blanks) →
    let number := s.tracker.frame.number + 1
    ∃ t, exec (.internalBlankingLine time) s = .next t
      ∧ t.writer = { s.writer with allowance := 4096 }
      ∧ t.markers.mark = false
      ∧ (g.slot + 1 < h + g.blanks →
        t = { s with
          tracker := { s.tracker with generator := some { g with slot := g.slot + 1 } }
          markers := { s.markers with mark := false }
          writer := t.writer
          down := { s.down with waiting := s.down.waiting
            ++ (if s.commands.config.freeRun then [.blank] else []) } })
      ∧ (g.slot + 1 = h + g.blanks →
        t = { s with
          tracker := s.tracker.internalBegun (g.start + g.period)
          panes := t.panes, palette := t.palette, fade := t.fade
          commitPending := false, compositor := t.compositor, markers := t.markers
          writer := t.writer, up := t.up, orderings := t.orderings
          down := { s.down with waiting := s.down.waiting ++ (if s.commands.config.freeRun then
            [.blank, .frameClose s.tracker.frame.number,
             .frameOpen number (BitVec.ofNat 16 s.tracker.timing.width)
               (BitVec.ofNat 16 s.tracker.timing.lines)] else []) } }
        ∧ s.frameStarted t
        ∧ s.noticed t [] (endNotices s.tracker.frame.number s.tracker.faults s.compositor.overrun []
            ++ s.startNotices number t.fade.level))

/-! ### Composition -/

/-- The scroll map: lead and trail stay, the band is rotated by the offset; the map is one to one on the pane's display
indices and the identity for offset 0 (R43). -/
def Obligations.ScrollMapRotatesTheBand : Prop :=
  ∀ (d : Scroll) (o : Nat), 1 ≤ d.band → o < d.band →
    (∀ i, i < d.lead → scrollMap d o i = i)
    ∧ (∀ i, d.lead ≤ i → i < d.lead + d.band →
        scrollMap d o i = d.lead + (i - d.lead + o) % d.band
        ∧ d.lead ≤ scrollMap d o i ∧ scrollMap d o i < d.lead + d.band)
    ∧ (∀ i, d.lead + d.band ≤ i → scrollMap d o i = i)
    ∧ (∀ i j, scrollMap d o i = scrollMap d o j → i = j)
    ∧ (∀ i, scrollMap d 0 i = i)
    ∧ scrollMap d o d.lead = d.lead + o
    ∧ (1 ≤ o → scrollMap d o (d.lead + d.band - 1) = d.lead + o - 1)

/-- A candidate's cost is the number of its store columns whose first screen column is inside the frame, which is 0 for
screen x at W or more and else the lesser of width and ceil((W - screen x) / horizontal scale) (R24). -/
def Obligations.CostCountsVisibleColumns : Prop :=
  ∀ (p : PaneRec) (w : Nat), (p.hscale = 1 ∨ p.hscale = 2) →
    p.cost w = ((List.range p.width).filter (fun d => decide (p.screenX + d * p.hscale < w))).length
    ∧ (w ≤ p.screenX → p.cost w = 0)
    ∧ (p.screenX < w → p.cost w = min p.width (((w - p.screenX) + (p.hscale - 1)) / p.hscale))

/-- Admission in a budget of 4,096 from pane 7 down: a candidate of nonzero cost is admitted exactly when its cost fits
what the admitted panes above it leave, and is else skipped; nothing else is admitted or skipped; the admitted costs sum
to at most 4,096; and with widths up to 2,048 a line with at most two such candidates skips none (R26). -/
def Obligations.AdmissionFillsTheBudgetFromTheTop : Prop :=
  ∀ (panes : Vector ActivePane 8) (y w : Nat),
    let a := admissionOf panes y w
    let all : List (Fin 8) := [0, 1, 2, 3, 4, 5, 6, 7]
    let counts (i : Fin 8) : Prop := panes[i].fields.candidate y = true ∧ 0 < panes[i].fields.cost w
    let above (i : Fin 8) : Nat :=
      ((all.filter (fun j => decide (i < j) && a.admitted.getLsbD j.val)).map (fun j => panes[j].fields.cost w)).sum
    (∀ i : Fin 8,
      (a.admitted.getLsbD i.val = true ↔ counts i ∧ panes[i].fields.cost w + above i ≤ 4096)
      ∧ (a.skipped.getLsbD i.val = true ↔ counts i ∧ 4096 < panes[i].fields.cost w + above i))
    ∧ ((all.filter (fun j => a.admitted.getLsbD j.val)).map (fun j => panes[j].fields.cost w)).sum ≤ 4096
    ∧ ((∀ i : Fin 8, panes[i].fields.width ≤ 2048) →
        (∀ i j k : Fin 8, counts i → counts j → counts k → i = j ∨ j = k ∨ i = k) → a.skipped = 0)

/-- A pane contributes at a column of its span the active palette entry of the index stored at its memory row and column,
unless the key is that index, and nothing outside its span; for a valid record and a covered line the entry read lies
inside the pane's footprint and the index store (R23, R31). -/
def Obligations.LookupStaysInTheFootprint : Prop :=
  ∀ (p : ActivePane) (palette : Vector PaletteEntry 256) (store : IndexStore) (x y : Nat),
    p.valid = true → p.fields.candidate y = true →
    (x < p.fields.screenX ∨ p.fields.screenX + p.fields.width * p.fields.hscale ≤ x →
      contribution p palette store x y = none)
    ∧ (p.fields.screenX ≤ x → x < p.fields.screenX + p.fields.width * p.fields.hscale →
      let r := (y - p.fields.screenY) / p.fields.vscale
      let d := (x - p.fields.screenX) / p.fields.hscale
      let row := if p.fields.scroll.axis = .vertical then scrollMap p.fields.scroll p.offset r else r
      let column := if p.fields.scroll.axis = .horizontal then scrollMap p.fields.scroll p.offset d else d
      let i := store.read (p.fields.base + row * p.fields.stride + column)
      row < p.fields.height ∧ column < p.fields.width
      ∧ p.fields.base + row * p.fields.stride + column < 262144
      ∧ contribution p palette store x y = if p.fields.key = some i then none else some palette[i.toFin])

/-- The effective opacity is floor((entry · pane · fade + 128) / 256) and lies in 0..16 for factors in 0..16 (R33), and
each channel becomes floor((e · overlay + (16 - e) · under + 8) / 16), which fits its byte, is the overlay at 16 and the
pixel beneath at 0, and keeps equal values (R34). -/
def Obligations.BlendingIsChannelByChannel : Prop :=
  ∀ (entry : PaletteEntry) (pane fade : Nat) (under : Pixel),
    entry.opacity.toNat ≤ 16 → pane ≤ 16 → fade ≤ 16 →
    let e := (entry.opacity.toNat * pane * fade + 128) / 256
    let channel (overlay below : Byte) : Nat := (e * overlay.toNat + (16 - e) * below.toNat + 8) / 16
    let out := blend entry pane fade under
    e ≤ 16
    ∧ out.red.toNat = channel entry.red under.red
    ∧ out.green.toNat = channel entry.green under.green
    ∧ out.blue.toNat = channel entry.blue under.blue
    ∧ (∀ a b : Byte, channel a b ≤ 255 ∧ (e = 16 → channel a b = a.toNat) ∧ (e = 0 → channel a b = b.toNat)
        ∧ (a = b → channel a b = a.toNat))
end

