-- ==== Sys2Proof/Laws/State.lean ====
section
/-! SUPPORT. One lemma per field per setter of `State`, true by rfl, and the setters' own laws. -/

namespace Sys2Proof.Machine

/-! ### withAddress -/

@[simp] theorem State.withAddress_address (s : State) (x : Nat) : (s.withAddress x).address = x := rfl
@[simp] theorem State.withAddress_badPackets (s : State) (x : Nat) : (s.withAddress x).badPackets = s.badPackets := rfl
@[simp] theorem State.withAddress_tracker (s : State) (x : Nat) : (s.withAddress x).tracker = s.tracker := rfl
@[simp] theorem State.withAddress_panes (s : State) (x : Nat) : (s.withAddress x).panes = s.panes := rfl
@[simp] theorem State.withAddress_palette (s : State) (x : Nat) : (s.withAddress x).palette = s.palette := rfl
@[simp] theorem State.withAddress_fade (s : State) (x : Nat) : (s.withAddress x).fade = s.fade := rfl
@[simp] theorem State.withAddress_commitPending (s : State) (x : Nat) : (s.withAddress x).commitPending = s.commitPending := rfl
@[simp] theorem State.withAddress_compositor (s : State) (x : Nat) : (s.withAddress x).compositor = s.compositor := rfl
@[simp] theorem State.withAddress_store (s : State) (x : Nat) : (s.withAddress x).store = s.store := rfl
@[simp] theorem State.withAddress_writer (s : State) (x : Nat) : (s.withAddress x).writer = s.writer := rfl
@[simp] theorem State.withAddress_markers (s : State) (x : Nat) : (s.withAddress x).markers = s.markers := rfl
@[simp] theorem State.withAddress_commands (s : State) (x : Nat) : (s.withAddress x).commands = s.commands := rfl
@[simp] theorem State.withAddress_up (s : State) (x : Nat) : (s.withAddress x).up = s.up := rfl
@[simp] theorem State.withAddress_down (s : State) (x : Nat) : (s.withAddress x).down = s.down := rfl
@[simp] theorem State.withAddress_orderings (s : State) (x : Nat) : (s.withAddress x).orderings = s.orderings := rfl
@[simp] theorem State.withAddress_pending (s : State) (x : Nat) : (s.withAddress x).pending = s.pending := rfl
@[simp] theorem State.withAddress_withAddress (s : State) (x y : Nat) : (s.withAddress x).withAddress y = s.withAddress y := rfl
@[simp] theorem State.withAddress_self (s : State) : s.withAddress s.address = s := rfl

/-! ### withBadPackets -/

@[simp] theorem State.withBadPackets_address (s : State) (x : Nat) : (s.withBadPackets x).address = s.address := rfl
@[simp] theorem State.withBadPackets_badPackets (s : State) (x : Nat) : (s.withBadPackets x).badPackets = x := rfl
@[simp] theorem State.withBadPackets_tracker (s : State) (x : Nat) : (s.withBadPackets x).tracker = s.tracker := rfl
@[simp] theorem State.withBadPackets_panes (s : State) (x : Nat) : (s.withBadPackets x).panes = s.panes := rfl
@[simp] theorem State.withBadPackets_palette (s : State) (x : Nat) : (s.withBadPackets x).palette = s.palette := rfl
@[simp] theorem State.withBadPackets_fade (s : State) (x : Nat) : (s.withBadPackets x).fade = s.fade := rfl
@[simp] theorem State.withBadPackets_commitPending (s : State) (x : Nat) : (s.withBadPackets x).commitPending = s.commitPending := rfl
@[simp] theorem State.withBadPackets_compositor (s : State) (x : Nat) : (s.withBadPackets x).compositor = s.compositor := rfl
@[simp] theorem State.withBadPackets_store (s : State) (x : Nat) : (s.withBadPackets x).store = s.store := rfl
@[simp] theorem State.withBadPackets_writer (s : State) (x : Nat) : (s.withBadPackets x).writer = s.writer := rfl
@[simp] theorem State.withBadPackets_markers (s : State) (x : Nat) : (s.withBadPackets x).markers = s.markers := rfl
@[simp] theorem State.withBadPackets_commands (s : State) (x : Nat) : (s.withBadPackets x).commands = s.commands := rfl
@[simp] theorem State.withBadPackets_up (s : State) (x : Nat) : (s.withBadPackets x).up = s.up := rfl
@[simp] theorem State.withBadPackets_down (s : State) (x : Nat) : (s.withBadPackets x).down = s.down := rfl
@[simp] theorem State.withBadPackets_orderings (s : State) (x : Nat) : (s.withBadPackets x).orderings = s.orderings := rfl
@[simp] theorem State.withBadPackets_pending (s : State) (x : Nat) : (s.withBadPackets x).pending = s.pending := rfl
@[simp] theorem State.withBadPackets_withBadPackets (s : State) (x y : Nat) : (s.withBadPackets x).withBadPackets y = s.withBadPackets y := rfl
@[simp] theorem State.withBadPackets_self (s : State) : s.withBadPackets s.badPackets = s := rfl

/-! ### withTracker -/

@[simp] theorem State.withTracker_address (s : State) (x : Tracker) : (s.withTracker x).address = s.address := rfl
@[simp] theorem State.withTracker_badPackets (s : State) (x : Tracker) : (s.withTracker x).badPackets = s.badPackets := rfl
@[simp] theorem State.withTracker_tracker (s : State) (x : Tracker) : (s.withTracker x).tracker = x := rfl
@[simp] theorem State.withTracker_panes (s : State) (x : Tracker) : (s.withTracker x).panes = s.panes := rfl
@[simp] theorem State.withTracker_palette (s : State) (x : Tracker) : (s.withTracker x).palette = s.palette := rfl
@[simp] theorem State.withTracker_fade (s : State) (x : Tracker) : (s.withTracker x).fade = s.fade := rfl
@[simp] theorem State.withTracker_commitPending (s : State) (x : Tracker) : (s.withTracker x).commitPending = s.commitPending := rfl
@[simp] theorem State.withTracker_compositor (s : State) (x : Tracker) : (s.withTracker x).compositor = s.compositor := rfl
@[simp] theorem State.withTracker_store (s : State) (x : Tracker) : (s.withTracker x).store = s.store := rfl
@[simp] theorem State.withTracker_writer (s : State) (x : Tracker) : (s.withTracker x).writer = s.writer := rfl
@[simp] theorem State.withTracker_markers (s : State) (x : Tracker) : (s.withTracker x).markers = s.markers := rfl
@[simp] theorem State.withTracker_commands (s : State) (x : Tracker) : (s.withTracker x).commands = s.commands := rfl
@[simp] theorem State.withTracker_up (s : State) (x : Tracker) : (s.withTracker x).up = s.up := rfl
@[simp] theorem State.withTracker_down (s : State) (x : Tracker) : (s.withTracker x).down = s.down := rfl
@[simp] theorem State.withTracker_orderings (s : State) (x : Tracker) : (s.withTracker x).orderings = s.orderings := rfl
@[simp] theorem State.withTracker_pending (s : State) (x : Tracker) : (s.withTracker x).pending = s.pending := rfl
@[simp] theorem State.withTracker_withTracker (s : State) (x y : Tracker) : (s.withTracker x).withTracker y = s.withTracker y := rfl
@[simp] theorem State.withTracker_self (s : State) : s.withTracker s.tracker = s := rfl

/-! ### withPanes -/

@[simp] theorem State.withPanes_address (s : State) (x : PaneTable) : (s.withPanes x).address = s.address := rfl
@[simp] theorem State.withPanes_badPackets (s : State) (x : PaneTable) : (s.withPanes x).badPackets = s.badPackets := rfl
@[simp] theorem State.withPanes_tracker (s : State) (x : PaneTable) : (s.withPanes x).tracker = s.tracker := rfl
@[simp] theorem State.withPanes_panes (s : State) (x : PaneTable) : (s.withPanes x).panes = x := rfl
@[simp] theorem State.withPanes_palette (s : State) (x : PaneTable) : (s.withPanes x).palette = s.palette := rfl
@[simp] theorem State.withPanes_fade (s : State) (x : PaneTable) : (s.withPanes x).fade = s.fade := rfl
@[simp] theorem State.withPanes_commitPending (s : State) (x : PaneTable) : (s.withPanes x).commitPending = s.commitPending := rfl
@[simp] theorem State.withPanes_compositor (s : State) (x : PaneTable) : (s.withPanes x).compositor = s.compositor := rfl
@[simp] theorem State.withPanes_store (s : State) (x : PaneTable) : (s.withPanes x).store = s.store := rfl
@[simp] theorem State.withPanes_writer (s : State) (x : PaneTable) : (s.withPanes x).writer = s.writer := rfl
@[simp] theorem State.withPanes_markers (s : State) (x : PaneTable) : (s.withPanes x).markers = s.markers := rfl
@[simp] theorem State.withPanes_commands (s : State) (x : PaneTable) : (s.withPanes x).commands = s.commands := rfl
@[simp] theorem State.withPanes_up (s : State) (x : PaneTable) : (s.withPanes x).up = s.up := rfl
@[simp] theorem State.withPanes_down (s : State) (x : PaneTable) : (s.withPanes x).down = s.down := rfl
@[simp] theorem State.withPanes_orderings (s : State) (x : PaneTable) : (s.withPanes x).orderings = s.orderings := rfl
@[simp] theorem State.withPanes_pending (s : State) (x : PaneTable) : (s.withPanes x).pending = s.pending := rfl
@[simp] theorem State.withPanes_withPanes (s : State) (x y : PaneTable) : (s.withPanes x).withPanes y = s.withPanes y := rfl
@[simp] theorem State.withPanes_self (s : State) : s.withPanes s.panes = s := rfl

/-! ### withPalette -/

@[simp] theorem State.withPalette_address (s : State) (x : PaletteTable) : (s.withPalette x).address = s.address := rfl
@[simp] theorem State.withPalette_badPackets (s : State) (x : PaletteTable) : (s.withPalette x).badPackets = s.badPackets := rfl
@[simp] theorem State.withPalette_tracker (s : State) (x : PaletteTable) : (s.withPalette x).tracker = s.tracker := rfl
@[simp] theorem State.withPalette_panes (s : State) (x : PaletteTable) : (s.withPalette x).panes = s.panes := rfl
@[simp] theorem State.withPalette_palette (s : State) (x : PaletteTable) : (s.withPalette x).palette = x := rfl
@[simp] theorem State.withPalette_fade (s : State) (x : PaletteTable) : (s.withPalette x).fade = s.fade := rfl
@[simp] theorem State.withPalette_commitPending (s : State) (x : PaletteTable) : (s.withPalette x).commitPending = s.commitPending := rfl
@[simp] theorem State.withPalette_compositor (s : State) (x : PaletteTable) : (s.withPalette x).compositor = s.compositor := rfl
@[simp] theorem State.withPalette_store (s : State) (x : PaletteTable) : (s.withPalette x).store = s.store := rfl
@[simp] theorem State.withPalette_writer (s : State) (x : PaletteTable) : (s.withPalette x).writer = s.writer := rfl
@[simp] theorem State.withPalette_markers (s : State) (x : PaletteTable) : (s.withPalette x).markers = s.markers := rfl
@[simp] theorem State.withPalette_commands (s : State) (x : PaletteTable) : (s.withPalette x).commands = s.commands := rfl
@[simp] theorem State.withPalette_up (s : State) (x : PaletteTable) : (s.withPalette x).up = s.up := rfl
@[simp] theorem State.withPalette_down (s : State) (x : PaletteTable) : (s.withPalette x).down = s.down := rfl
@[simp] theorem State.withPalette_orderings (s : State) (x : PaletteTable) : (s.withPalette x).orderings = s.orderings := rfl
@[simp] theorem State.withPalette_pending (s : State) (x : PaletteTable) : (s.withPalette x).pending = s.pending := rfl
@[simp] theorem State.withPalette_withPalette (s : State) (x y : PaletteTable) : (s.withPalette x).withPalette y = s.withPalette y := rfl
@[simp] theorem State.withPalette_self (s : State) : s.withPalette s.palette = s := rfl

/-! ### withFade -/

@[simp] theorem State.withFade_address (s : State) (x : FadeEngine) : (s.withFade x).address = s.address := rfl
@[simp] theorem State.withFade_badPackets (s : State) (x : FadeEngine) : (s.withFade x).badPackets = s.badPackets := rfl
@[simp] theorem State.withFade_tracker (s : State) (x : FadeEngine) : (s.withFade x).tracker = s.tracker := rfl
@[simp] theorem State.withFade_panes (s : State) (x : FadeEngine) : (s.withFade x).panes = s.panes := rfl
@[simp] theorem State.withFade_palette (s : State) (x : FadeEngine) : (s.withFade x).palette = s.palette := rfl
@[simp] theorem State.withFade_fade (s : State) (x : FadeEngine) : (s.withFade x).fade = x := rfl
@[simp] theorem State.withFade_commitPending (s : State) (x : FadeEngine) : (s.withFade x).commitPending = s.commitPending := rfl
@[simp] theorem State.withFade_compositor (s : State) (x : FadeEngine) : (s.withFade x).compositor = s.compositor := rfl
@[simp] theorem State.withFade_store (s : State) (x : FadeEngine) : (s.withFade x).store = s.store := rfl
@[simp] theorem State.withFade_writer (s : State) (x : FadeEngine) : (s.withFade x).writer = s.writer := rfl
@[simp] theorem State.withFade_markers (s : State) (x : FadeEngine) : (s.withFade x).markers = s.markers := rfl
@[simp] theorem State.withFade_commands (s : State) (x : FadeEngine) : (s.withFade x).commands = s.commands := rfl
@[simp] theorem State.withFade_up (s : State) (x : FadeEngine) : (s.withFade x).up = s.up := rfl
@[simp] theorem State.withFade_down (s : State) (x : FadeEngine) : (s.withFade x).down = s.down := rfl
@[simp] theorem State.withFade_orderings (s : State) (x : FadeEngine) : (s.withFade x).orderings = s.orderings := rfl
@[simp] theorem State.withFade_pending (s : State) (x : FadeEngine) : (s.withFade x).pending = s.pending := rfl
@[simp] theorem State.withFade_withFade (s : State) (x y : FadeEngine) : (s.withFade x).withFade y = s.withFade y := rfl
@[simp] theorem State.withFade_self (s : State) : s.withFade s.fade = s := rfl

/-! ### withCommitPending -/

@[simp] theorem State.withCommitPending_address (s : State) (x : Bool) : (s.withCommitPending x).address = s.address := rfl
@[simp] theorem State.withCommitPending_badPackets (s : State) (x : Bool) : (s.withCommitPending x).badPackets = s.badPackets := rfl
@[simp] theorem State.withCommitPending_tracker (s : State) (x : Bool) : (s.withCommitPending x).tracker = s.tracker := rfl
@[simp] theorem State.withCommitPending_panes (s : State) (x : Bool) : (s.withCommitPending x).panes = s.panes := rfl
@[simp] theorem State.withCommitPending_palette (s : State) (x : Bool) : (s.withCommitPending x).palette = s.palette := rfl
@[simp] theorem State.withCommitPending_fade (s : State) (x : Bool) : (s.withCommitPending x).fade = s.fade := rfl
@[simp] theorem State.withCommitPending_commitPending (s : State) (x : Bool) : (s.withCommitPending x).commitPending = x := rfl
@[simp] theorem State.withCommitPending_compositor (s : State) (x : Bool) : (s.withCommitPending x).compositor = s.compositor := rfl
@[simp] theorem State.withCommitPending_store (s : State) (x : Bool) : (s.withCommitPending x).store = s.store := rfl
@[simp] theorem State.withCommitPending_writer (s : State) (x : Bool) : (s.withCommitPending x).writer = s.writer := rfl
@[simp] theorem State.withCommitPending_markers (s : State) (x : Bool) : (s.withCommitPending x).markers = s.markers := rfl
@[simp] theorem State.withCommitPending_commands (s : State) (x : Bool) : (s.withCommitPending x).commands = s.commands := rfl
@[simp] theorem State.withCommitPending_up (s : State) (x : Bool) : (s.withCommitPending x).up = s.up := rfl
@[simp] theorem State.withCommitPending_down (s : State) (x : Bool) : (s.withCommitPending x).down = s.down := rfl
@[simp] theorem State.withCommitPending_orderings (s : State) (x : Bool) : (s.withCommitPending x).orderings = s.orderings := rfl
@[simp] theorem State.withCommitPending_pending (s : State) (x : Bool) : (s.withCommitPending x).pending = s.pending := rfl
@[simp] theorem State.withCommitPending_withCommitPending (s : State) (x y : Bool) : (s.withCommitPending x).withCommitPending y = s.withCommitPending y := rfl
@[simp] theorem State.withCommitPending_self (s : State) : s.withCommitPending s.commitPending = s := rfl

/-! ### withCompositor -/

@[simp] theorem State.withCompositor_address (s : State) (x : Compositor) : (s.withCompositor x).address = s.address := rfl
@[simp] theorem State.withCompositor_badPackets (s : State) (x : Compositor) : (s.withCompositor x).badPackets = s.badPackets := rfl
@[simp] theorem State.withCompositor_tracker (s : State) (x : Compositor) : (s.withCompositor x).tracker = s.tracker := rfl
@[simp] theorem State.withCompositor_panes (s : State) (x : Compositor) : (s.withCompositor x).panes = s.panes := rfl
@[simp] theorem State.withCompositor_palette (s : State) (x : Compositor) : (s.withCompositor x).palette = s.palette := rfl
@[simp] theorem State.withCompositor_fade (s : State) (x : Compositor) : (s.withCompositor x).fade = s.fade := rfl
@[simp] theorem State.withCompositor_commitPending (s : State) (x : Compositor) : (s.withCompositor x).commitPending = s.commitPending := rfl
@[simp] theorem State.withCompositor_compositor (s : State) (x : Compositor) : (s.withCompositor x).compositor = x := rfl
@[simp] theorem State.withCompositor_store (s : State) (x : Compositor) : (s.withCompositor x).store = s.store := rfl
@[simp] theorem State.withCompositor_writer (s : State) (x : Compositor) : (s.withCompositor x).writer = s.writer := rfl
@[simp] theorem State.withCompositor_markers (s : State) (x : Compositor) : (s.withCompositor x).markers = s.markers := rfl
@[simp] theorem State.withCompositor_commands (s : State) (x : Compositor) : (s.withCompositor x).commands = s.commands := rfl
@[simp] theorem State.withCompositor_up (s : State) (x : Compositor) : (s.withCompositor x).up = s.up := rfl
@[simp] theorem State.withCompositor_down (s : State) (x : Compositor) : (s.withCompositor x).down = s.down := rfl
@[simp] theorem State.withCompositor_orderings (s : State) (x : Compositor) : (s.withCompositor x).orderings = s.orderings := rfl
@[simp] theorem State.withCompositor_pending (s : State) (x : Compositor) : (s.withCompositor x).pending = s.pending := rfl
@[simp] theorem State.withCompositor_withCompositor (s : State) (x y : Compositor) : (s.withCompositor x).withCompositor y = s.withCompositor y := rfl
@[simp] theorem State.withCompositor_self (s : State) : s.withCompositor s.compositor = s := rfl

/-! ### withStore -/

@[simp] theorem State.withStore_address (s : State) (x : IndexStore) : (s.withStore x).address = s.address := rfl
@[simp] theorem State.withStore_badPackets (s : State) (x : IndexStore) : (s.withStore x).badPackets = s.badPackets := rfl
@[simp] theorem State.withStore_tracker (s : State) (x : IndexStore) : (s.withStore x).tracker = s.tracker := rfl
@[simp] theorem State.withStore_panes (s : State) (x : IndexStore) : (s.withStore x).panes = s.panes := rfl
@[simp] theorem State.withStore_palette (s : State) (x : IndexStore) : (s.withStore x).palette = s.palette := rfl
@[simp] theorem State.withStore_fade (s : State) (x : IndexStore) : (s.withStore x).fade = s.fade := rfl
@[simp] theorem State.withStore_commitPending (s : State) (x : IndexStore) : (s.withStore x).commitPending = s.commitPending := rfl
@[simp] theorem State.withStore_compositor (s : State) (x : IndexStore) : (s.withStore x).compositor = s.compositor := rfl
@[simp] theorem State.withStore_store (s : State) (x : IndexStore) : (s.withStore x).store = x := rfl
@[simp] theorem State.withStore_writer (s : State) (x : IndexStore) : (s.withStore x).writer = s.writer := rfl
@[simp] theorem State.withStore_markers (s : State) (x : IndexStore) : (s.withStore x).markers = s.markers := rfl
@[simp] theorem State.withStore_commands (s : State) (x : IndexStore) : (s.withStore x).commands = s.commands := rfl
@[simp] theorem State.withStore_up (s : State) (x : IndexStore) : (s.withStore x).up = s.up := rfl
@[simp] theorem State.withStore_down (s : State) (x : IndexStore) : (s.withStore x).down = s.down := rfl
@[simp] theorem State.withStore_orderings (s : State) (x : IndexStore) : (s.withStore x).orderings = s.orderings := rfl
@[simp] theorem State.withStore_pending (s : State) (x : IndexStore) : (s.withStore x).pending = s.pending := rfl
@[simp] theorem State.withStore_withStore (s : State) (x y : IndexStore) : (s.withStore x).withStore y = s.withStore y := rfl
@[simp] theorem State.withStore_self (s : State) : s.withStore s.store = s := rfl

/-! ### withWriter -/

@[simp] theorem State.withWriter_address (s : State) (x : StoreWriter) : (s.withWriter x).address = s.address := rfl
@[simp] theorem State.withWriter_badPackets (s : State) (x : StoreWriter) : (s.withWriter x).badPackets = s.badPackets := rfl
@[simp] theorem State.withWriter_tracker (s : State) (x : StoreWriter) : (s.withWriter x).tracker = s.tracker := rfl
@[simp] theorem State.withWriter_panes (s : State) (x : StoreWriter) : (s.withWriter x).panes = s.panes := rfl
@[simp] theorem State.withWriter_palette (s : State) (x : StoreWriter) : (s.withWriter x).palette = s.palette := rfl
@[simp] theorem State.withWriter_fade (s : State) (x : StoreWriter) : (s.withWriter x).fade = s.fade := rfl
@[simp] theorem State.withWriter_commitPending (s : State) (x : StoreWriter) : (s.withWriter x).commitPending = s.commitPending := rfl
@[simp] theorem State.withWriter_compositor (s : State) (x : StoreWriter) : (s.withWriter x).compositor = s.compositor := rfl
@[simp] theorem State.withWriter_store (s : State) (x : StoreWriter) : (s.withWriter x).store = s.store := rfl
@[simp] theorem State.withWriter_writer (s : State) (x : StoreWriter) : (s.withWriter x).writer = x := rfl
@[simp] theorem State.withWriter_markers (s : State) (x : StoreWriter) : (s.withWriter x).markers = s.markers := rfl
@[simp] theorem State.withWriter_commands (s : State) (x : StoreWriter) : (s.withWriter x).commands = s.commands := rfl
@[simp] theorem State.withWriter_up (s : State) (x : StoreWriter) : (s.withWriter x).up = s.up := rfl
@[simp] theorem State.withWriter_down (s : State) (x : StoreWriter) : (s.withWriter x).down = s.down := rfl
@[simp] theorem State.withWriter_orderings (s : State) (x : StoreWriter) : (s.withWriter x).orderings = s.orderings := rfl
@[simp] theorem State.withWriter_pending (s : State) (x : StoreWriter) : (s.withWriter x).pending = s.pending := rfl
@[simp] theorem State.withWriter_withWriter (s : State) (x y : StoreWriter) : (s.withWriter x).withWriter y = s.withWriter y := rfl
@[simp] theorem State.withWriter_self (s : State) : s.withWriter s.writer = s := rfl

/-! ### withMarkers -/

@[simp] theorem State.withMarkers_address (s : State) (x : MarkerUnit) : (s.withMarkers x).address = s.address := rfl
@[simp] theorem State.withMarkers_badPackets (s : State) (x : MarkerUnit) : (s.withMarkers x).badPackets = s.badPackets := rfl
@[simp] theorem State.withMarkers_tracker (s : State) (x : MarkerUnit) : (s.withMarkers x).tracker = s.tracker := rfl
@[simp] theorem State.withMarkers_panes (s : State) (x : MarkerUnit) : (s.withMarkers x).panes = s.panes := rfl
@[simp] theorem State.withMarkers_palette (s : State) (x : MarkerUnit) : (s.withMarkers x).palette = s.palette := rfl
@[simp] theorem State.withMarkers_fade (s : State) (x : MarkerUnit) : (s.withMarkers x).fade = s.fade := rfl
@[simp] theorem State.withMarkers_commitPending (s : State) (x : MarkerUnit) : (s.withMarkers x).commitPending = s.commitPending := rfl
@[simp] theorem State.withMarkers_compositor (s : State) (x : MarkerUnit) : (s.withMarkers x).compositor = s.compositor := rfl
@[simp] theorem State.withMarkers_store (s : State) (x : MarkerUnit) : (s.withMarkers x).store = s.store := rfl
@[simp] theorem State.withMarkers_writer (s : State) (x : MarkerUnit) : (s.withMarkers x).writer = s.writer := rfl
@[simp] theorem State.withMarkers_markers (s : State) (x : MarkerUnit) : (s.withMarkers x).markers = x := rfl
@[simp] theorem State.withMarkers_commands (s : State) (x : MarkerUnit) : (s.withMarkers x).commands = s.commands := rfl
@[simp] theorem State.withMarkers_up (s : State) (x : MarkerUnit) : (s.withMarkers x).up = s.up := rfl
@[simp] theorem State.withMarkers_down (s : State) (x : MarkerUnit) : (s.withMarkers x).down = s.down := rfl
@[simp] theorem State.withMarkers_orderings (s : State) (x : MarkerUnit) : (s.withMarkers x).orderings = s.orderings := rfl
@[simp] theorem State.withMarkers_pending (s : State) (x : MarkerUnit) : (s.withMarkers x).pending = s.pending := rfl
@[simp] theorem State.withMarkers_withMarkers (s : State) (x y : MarkerUnit) : (s.withMarkers x).withMarkers y = s.withMarkers y := rfl
@[simp] theorem State.withMarkers_self (s : State) : s.withMarkers s.markers = s := rfl

/-! ### withCommands -/

@[simp] theorem State.withCommands_address (s : State) (x : CommandUnit) : (s.withCommands x).address = s.address := rfl
@[simp] theorem State.withCommands_badPackets (s : State) (x : CommandUnit) : (s.withCommands x).badPackets = s.badPackets := rfl
@[simp] theorem State.withCommands_tracker (s : State) (x : CommandUnit) : (s.withCommands x).tracker = s.tracker := rfl
@[simp] theorem State.withCommands_panes (s : State) (x : CommandUnit) : (s.withCommands x).panes = s.panes := rfl
@[simp] theorem State.withCommands_palette (s : State) (x : CommandUnit) : (s.withCommands x).palette = s.palette := rfl
@[simp] theorem State.withCommands_fade (s : State) (x : CommandUnit) : (s.withCommands x).fade = s.fade := rfl
@[simp] theorem State.withCommands_commitPending (s : State) (x : CommandUnit) : (s.withCommands x).commitPending = s.commitPending := rfl
@[simp] theorem State.withCommands_compositor (s : State) (x : CommandUnit) : (s.withCommands x).compositor = s.compositor := rfl
@[simp] theorem State.withCommands_store (s : State) (x : CommandUnit) : (s.withCommands x).store = s.store := rfl
@[simp] theorem State.withCommands_writer (s : State) (x : CommandUnit) : (s.withCommands x).writer = s.writer := rfl
@[simp] theorem State.withCommands_markers (s : State) (x : CommandUnit) : (s.withCommands x).markers = s.markers := rfl
@[simp] theorem State.withCommands_commands (s : State) (x : CommandUnit) : (s.withCommands x).commands = x := rfl
@[simp] theorem State.withCommands_up (s : State) (x : CommandUnit) : (s.withCommands x).up = s.up := rfl
@[simp] theorem State.withCommands_down (s : State) (x : CommandUnit) : (s.withCommands x).down = s.down := rfl
@[simp] theorem State.withCommands_orderings (s : State) (x : CommandUnit) : (s.withCommands x).orderings = s.orderings := rfl
@[simp] theorem State.withCommands_pending (s : State) (x : CommandUnit) : (s.withCommands x).pending = s.pending := rfl
@[simp] theorem State.withCommands_withCommands (s : State) (x y : CommandUnit) : (s.withCommands x).withCommands y = s.withCommands y := rfl
@[simp] theorem State.withCommands_self (s : State) : s.withCommands s.commands = s := rfl

/-! ### withUp -/

@[simp] theorem State.withUp_address (s : State) (x : UpLane) : (s.withUp x).address = s.address := rfl
@[simp] theorem State.withUp_badPackets (s : State) (x : UpLane) : (s.withUp x).badPackets = s.badPackets := rfl
@[simp] theorem State.withUp_tracker (s : State) (x : UpLane) : (s.withUp x).tracker = s.tracker := rfl
@[simp] theorem State.withUp_panes (s : State) (x : UpLane) : (s.withUp x).panes = s.panes := rfl
@[simp] theorem State.withUp_palette (s : State) (x : UpLane) : (s.withUp x).palette = s.palette := rfl
@[simp] theorem State.withUp_fade (s : State) (x : UpLane) : (s.withUp x).fade = s.fade := rfl
@[simp] theorem State.withUp_commitPending (s : State) (x : UpLane) : (s.withUp x).commitPending = s.commitPending := rfl
@[simp] theorem State.withUp_compositor (s : State) (x : UpLane) : (s.withUp x).compositor = s.compositor := rfl
@[simp] theorem State.withUp_store (s : State) (x : UpLane) : (s.withUp x).store = s.store := rfl
@[simp] theorem State.withUp_writer (s : State) (x : UpLane) : (s.withUp x).writer = s.writer := rfl
@[simp] theorem State.withUp_markers (s : State) (x : UpLane) : (s.withUp x).markers = s.markers := rfl
@[simp] theorem State.withUp_commands (s : State) (x : UpLane) : (s.withUp x).commands = s.commands := rfl
@[simp] theorem State.withUp_up (s : State) (x : UpLane) : (s.withUp x).up = x := rfl
@[simp] theorem State.withUp_down (s : State) (x : UpLane) : (s.withUp x).down = s.down := rfl
@[simp] theorem State.withUp_orderings (s : State) (x : UpLane) : (s.withUp x).orderings = s.orderings := rfl
@[simp] theorem State.withUp_pending (s : State) (x : UpLane) : (s.withUp x).pending = s.pending := rfl
@[simp] theorem State.withUp_withUp (s : State) (x y : UpLane) : (s.withUp x).withUp y = s.withUp y := rfl
@[simp] theorem State.withUp_self (s : State) : s.withUp s.up = s := rfl

/-! ### withDown -/

@[simp] theorem State.withDown_address (s : State) (x : DownLane) : (s.withDown x).address = s.address := rfl
@[simp] theorem State.withDown_badPackets (s : State) (x : DownLane) : (s.withDown x).badPackets = s.badPackets := rfl
@[simp] theorem State.withDown_tracker (s : State) (x : DownLane) : (s.withDown x).tracker = s.tracker := rfl
@[simp] theorem State.withDown_panes (s : State) (x : DownLane) : (s.withDown x).panes = s.panes := rfl
@[simp] theorem State.withDown_palette (s : State) (x : DownLane) : (s.withDown x).palette = s.palette := rfl
@[simp] theorem State.withDown_fade (s : State) (x : DownLane) : (s.withDown x).fade = s.fade := rfl
@[simp] theorem State.withDown_commitPending (s : State) (x : DownLane) : (s.withDown x).commitPending = s.commitPending := rfl
@[simp] theorem State.withDown_compositor (s : State) (x : DownLane) : (s.withDown x).compositor = s.compositor := rfl
@[simp] theorem State.withDown_store (s : State) (x : DownLane) : (s.withDown x).store = s.store := rfl
@[simp] theorem State.withDown_writer (s : State) (x : DownLane) : (s.withDown x).writer = s.writer := rfl
@[simp] theorem State.withDown_markers (s : State) (x : DownLane) : (s.withDown x).markers = s.markers := rfl
@[simp] theorem State.withDown_commands (s : State) (x : DownLane) : (s.withDown x).commands = s.commands := rfl
@[simp] theorem State.withDown_up (s : State) (x : DownLane) : (s.withDown x).up = s.up := rfl
@[simp] theorem State.withDown_down (s : State) (x : DownLane) : (s.withDown x).down = x := rfl
@[simp] theorem State.withDown_orderings (s : State) (x : DownLane) : (s.withDown x).orderings = s.orderings := rfl
@[simp] theorem State.withDown_pending (s : State) (x : DownLane) : (s.withDown x).pending = s.pending := rfl
@[simp] theorem State.withDown_withDown (s : State) (x y : DownLane) : (s.withDown x).withDown y = s.withDown y := rfl
@[simp] theorem State.withDown_self (s : State) : s.withDown s.down = s := rfl

/-! ### withOrderings -/

@[simp] theorem State.withOrderings_address (s : State) (x : Nat) : (s.withOrderings x).address = s.address := rfl
@[simp] theorem State.withOrderings_badPackets (s : State) (x : Nat) : (s.withOrderings x).badPackets = s.badPackets := rfl
@[simp] theorem State.withOrderings_tracker (s : State) (x : Nat) : (s.withOrderings x).tracker = s.tracker := rfl
@[simp] theorem State.withOrderings_panes (s : State) (x : Nat) : (s.withOrderings x).panes = s.panes := rfl
@[simp] theorem State.withOrderings_palette (s : State) (x : Nat) : (s.withOrderings x).palette = s.palette := rfl
@[simp] theorem State.withOrderings_fade (s : State) (x : Nat) : (s.withOrderings x).fade = s.fade := rfl
@[simp] theorem State.withOrderings_commitPending (s : State) (x : Nat) : (s.withOrderings x).commitPending = s.commitPending := rfl
@[simp] theorem State.withOrderings_compositor (s : State) (x : Nat) : (s.withOrderings x).compositor = s.compositor := rfl
@[simp] theorem State.withOrderings_store (s : State) (x : Nat) : (s.withOrderings x).store = s.store := rfl
@[simp] theorem State.withOrderings_writer (s : State) (x : Nat) : (s.withOrderings x).writer = s.writer := rfl
@[simp] theorem State.withOrderings_markers (s : State) (x : Nat) : (s.withOrderings x).markers = s.markers := rfl
@[simp] theorem State.withOrderings_commands (s : State) (x : Nat) : (s.withOrderings x).commands = s.commands := rfl
@[simp] theorem State.withOrderings_up (s : State) (x : Nat) : (s.withOrderings x).up = s.up := rfl
@[simp] theorem State.withOrderings_down (s : State) (x : Nat) : (s.withOrderings x).down = s.down := rfl
@[simp] theorem State.withOrderings_orderings (s : State) (x : Nat) : (s.withOrderings x).orderings = x := rfl
@[simp] theorem State.withOrderings_pending (s : State) (x : Nat) : (s.withOrderings x).pending = s.pending := rfl
@[simp] theorem State.withOrderings_withOrderings (s : State) (x y : Nat) : (s.withOrderings x).withOrderings y = s.withOrderings y := rfl
@[simp] theorem State.withOrderings_self (s : State) : s.withOrderings s.orderings = s := rfl

/-! ### withPending -/

@[simp] theorem State.withPending_address (s : State) (x : List Instr) : (s.withPending x).address = s.address := rfl
@[simp] theorem State.withPending_badPackets (s : State) (x : List Instr) : (s.withPending x).badPackets = s.badPackets := rfl
@[simp] theorem State.withPending_tracker (s : State) (x : List Instr) : (s.withPending x).tracker = s.tracker := rfl
@[simp] theorem State.withPending_panes (s : State) (x : List Instr) : (s.withPending x).panes = s.panes := rfl
@[simp] theorem State.withPending_palette (s : State) (x : List Instr) : (s.withPending x).palette = s.palette := rfl
@[simp] theorem State.withPending_fade (s : State) (x : List Instr) : (s.withPending x).fade = s.fade := rfl
@[simp] theorem State.withPending_commitPending (s : State) (x : List Instr) : (s.withPending x).commitPending = s.commitPending := rfl
@[simp] theorem State.withPending_compositor (s : State) (x : List Instr) : (s.withPending x).compositor = s.compositor := rfl
@[simp] theorem State.withPending_store (s : State) (x : List Instr) : (s.withPending x).store = s.store := rfl
@[simp] theorem State.withPending_writer (s : State) (x : List Instr) : (s.withPending x).writer = s.writer := rfl
@[simp] theorem State.withPending_markers (s : State) (x : List Instr) : (s.withPending x).markers = s.markers := rfl
@[simp] theorem State.withPending_commands (s : State) (x : List Instr) : (s.withPending x).commands = s.commands := rfl
@[simp] theorem State.withPending_up (s : State) (x : List Instr) : (s.withPending x).up = s.up := rfl
@[simp] theorem State.withPending_down (s : State) (x : List Instr) : (s.withPending x).down = s.down := rfl
@[simp] theorem State.withPending_orderings (s : State) (x : List Instr) : (s.withPending x).orderings = s.orderings := rfl
@[simp] theorem State.withPending_pending (s : State) (x : List Instr) : (s.withPending x).pending = x := rfl
@[simp] theorem State.withPending_withPending (s : State) (x y : List Instr) : (s.withPending x).withPending y = s.withPending y := rfl
@[simp] theorem State.withPending_self (s : State) : s.withPending s.pending = s := rfl

end Sys2Proof.Machine
end

