-- ==== Sys2Proof/Laws/Store.lean ====
section
/-! SUPPORT. The index store's laws: a read after a write, and the canonical form, which every store operation
keeps (R80, R81). -/

namespace Sys2Proof.Machine

/-! ### The cell list -/

theorem cellAt_insertCell (cells : List Host.Cell) (a b : Nat) (v : Byte)
    (h : cells.Pairwise (fun x y => x.1 < y.1)) :
    cellAt (insertCell cells a v) b = if b = a then some v else cellAt cells b := by
  induction cells with
  | nil => simp [insertCell, cellAt, eq_comm]
  | cons c rest ih =>
    obtain ⟨k, w⟩ := c
    obtain ⟨hhead, htail⟩ := List.pairwise_cons.mp h
    unfold insertCell
    by_cases h1 : a < k
    · simp only [h1, ↓reduceIte, cellAt]
      by_cases hb : b = a
      · simp [hb]
      · simp [hb, Ne.symm hb]
    · by_cases h2 : a = k
      · subst h2
        simp only [h1, ↓reduceIte, cellAt]
        by_cases hb : b = a
        · simp [hb]
        · simp [hb, Ne.symm hb]
      · simp only [h1, h2, ↓reduceIte, cellAt, ih htail]
        by_cases hb : b = a
        · subst hb; simp [Ne.symm h2]
        · simp [hb]

theorem cellAt_eraseCell (cells : List Host.Cell) (a b : Nat) :
    cellAt (eraseCell cells a) b = if b = a then none else cellAt cells b := by
  induction cells with
  | nil => simp [eraseCell, cellAt]
  | cons c rest ih =>
    obtain ⟨k, w⟩ := c
    unfold eraseCell
    by_cases h1 : k = a
    · subst h1
      simp only [↓reduceIte, ih, cellAt]
      by_cases hb : b = k
      · simp [hb]
      · simp [hb, Ne.symm hb]
    · simp only [h1, ↓reduceIte, cellAt, ih]
      by_cases hb : b = a
      · subst hb; simp [h1]
      · simp [hb]

theorem mem_insertCell (cells : List Host.Cell) (a : Nat) (v : Byte) (c : Host.Cell)
    (h : c ∈ insertCell cells a v) : c = (a, v) ∨ c ∈ cells := by
  induction cells with
  | nil => simpa [insertCell] using h
  | cons d rest ih =>
    obtain ⟨k, w⟩ := d
    unfold insertCell at h
    split at h
    · simpa using h
    · split at h
      · rcases List.mem_cons.mp h with h | h
        · exact .inl h
        · exact .inr (List.mem_cons_of_mem _ h)
      · rcases List.mem_cons.mp h with h | h
        · exact .inr (by simp [h])
        · rcases ih h with h | h
          · exact .inl h
          · exact .inr (List.mem_cons_of_mem _ h)

theorem mem_eraseCell (cells : List Host.Cell) (a : Nat) (c : Host.Cell) :
    c ∈ eraseCell cells a ↔ c ∈ cells ∧ c.1 ≠ a := by
  induction cells with
  | nil => simp [eraseCell]
  | cons d rest ih =>
    obtain ⟨k, w⟩ := d
    unfold eraseCell
    by_cases h1 : k = a
    · subst h1
      simp only [↓reduceIte, ih, List.mem_cons]
      constructor
      · exact fun h => ⟨.inr h.1, h.2⟩
      · rintro ⟨rfl | h, hne⟩
        · exact absurd rfl hne
        · exact ⟨h, hne⟩
    · simp only [h1, ↓reduceIte, List.mem_cons, ih]
      constructor
      · rintro (rfl | h)
        · exact ⟨.inl rfl, h1⟩
        · exact ⟨.inr h.1, h.2⟩
      · rintro ⟨rfl | h, hne⟩
        · exact .inl rfl
        · exact .inr ⟨h, hne⟩

theorem insertCell_rising (cells : List Host.Cell) (a : Nat) (v : Byte)
    (h : cells.Pairwise (fun x y => x.1 < y.1)) :
    (insertCell cells a v).Pairwise (fun x y => x.1 < y.1) := by
  induction cells with
  | nil => simp [insertCell]
  | cons d rest ih =>
    obtain ⟨k, w⟩ := d
    obtain ⟨hhead, htail⟩ := List.pairwise_cons.mp h
    unfold insertCell
    split
    · refine List.pairwise_cons.mpr ⟨?_, h⟩
      intro c hc
      rcases List.mem_cons.mp hc with rfl | hc
      · assumption
      · exact Nat.lt_trans ‹a < k› (hhead c hc)
    · split
      · rename_i h2
        subst h2
        exact List.pairwise_cons.mpr ⟨hhead, htail⟩
      · refine List.pairwise_cons.mpr ⟨?_, ih htail⟩
        intro c hc
        rcases mem_insertCell rest a v c hc with rfl | hc
        · show k < a
          omega
        · exact hhead c hc

theorem eraseCell_rising (cells : List Host.Cell) (a : Nat)
    (h : cells.Pairwise (fun x y => x.1 < y.1)) :
    (eraseCell cells a).Pairwise (fun x y => x.1 < y.1) := by
  induction cells with
  | nil => simp [eraseCell]
  | cons d rest ih =>
    obtain ⟨k, w⟩ := d
    obtain ⟨hhead, htail⟩ := List.pairwise_cons.mp h
    unfold eraseCell
    split
    · exact ih htail
    · exact List.pairwise_cons.mpr
        ⟨fun c hc => hhead c ((mem_eraseCell rest a c).mp hc).1, ih htail⟩

/-! ### Writing -/

@[simp] theorem IndexStore.write_progress (st : IndexStore) (a : Nat) (v : Byte) :
    (st.write a v).progress = st.progress := by
  unfold IndexStore.write; split <;> rfl

@[simp] theorem IndexStore.write_powerOns (st : IndexStore) (a : Nat) (v : Byte) :
    (st.write a v).powerOns = st.powerOns := by
  unfold IndexStore.write; split <;> rfl

@[simp] theorem IndexStore.write_unlisted (st : IndexStore) (a b : Nat) (v : Byte) :
    (st.write a v).unlisted b = st.unlisted b := by
  simp [IndexStore.unlisted]

/-- Reading one entry after writing one: the value written there, and every other entry as it was. -/
theorem IndexStore.read_write (st : IndexStore) (a b : Nat) (v : Byte) (h : st.wf) :
    (st.write a v).read b = if b = a then v else st.read b := by
  unfold IndexStore.read
  rw [IndexStore.write_unlisted]
  unfold IndexStore.write
  split
  · rename_i hv
    simp only [cellAt_eraseCell]
    by_cases hb : b = a
    · simp [hb, hv]
    · simp [hb]
  · simp only [cellAt_insertCell _ _ _ _ h.1]
    by_cases hb : b = a
    · simp [hb]
    · simp [hb]

/-- A write keeps the canonical form. -/
theorem IndexStore.write_wf (st : IndexStore) (a : Nat) (v : Byte) (h : st.wf) : (st.write a v).wf := by
  refine ⟨?_, ?_⟩
  · unfold IndexStore.write
    split
    · exact eraseCell_rising _ _ h.1
    · exact insertCell_rising _ _ _ h.1
  · intro c hc
    rw [IndexStore.write_unlisted]
    unfold IndexStore.write at hc
    split at hc
    · exact h.2 c ((mem_eraseCell _ _ _).mp hc).1
    · rcases mem_insertCell _ _ _ _ hc with rfl | hc
      · assumption
      · exact h.2 c hc

/-! ### The start-up clear -/

theorem IndexStore.clearOne_unlisted (st : IndexStore) (b : Nat) (hb : b ≠ st.progress) :
    st.clearOne.unlisted b = st.unlisted b := by
  unfold IndexStore.unlisted IndexStore.clearOne
  have : b < st.progress + 1 ↔ b < st.progress := by omega
  simp [this]

/-- One pixel of the clear: the entry at the progress address holds 0, every other entry as it was (R81). -/
theorem IndexStore.read_clearOne (st : IndexStore) (b : Nat) :
    st.clearOne.read b = if b = st.progress then 0 else st.read b := by
  by_cases hb : b = st.progress
  · subst hb
    simp [IndexStore.read, IndexStore.clearOne, cellAt_eraseCell, IndexStore.unlisted]
  · have hu := st.clearOne_unlisted b hb
    simp only [hb, ↓reduceIte]
    unfold IndexStore.read
    rw [hu]
    simp [IndexStore.clearOne, cellAt_eraseCell, hb]

/-- The clear keeps the canonical form. -/
theorem IndexStore.clearOne_wf (st : IndexStore) (h : st.wf) : st.clearOne.wf := by
  refine ⟨eraseCell_rising _ _ h.1, ?_⟩
  intro c hc
  obtain ⟨hm, hne⟩ := (mem_eraseCell _ _ _).mp hc
  rw [st.clearOne_unlisted c.1 hne]
  exact h.2 c hm

/-- Memory after reset lists nothing and is in canonical form. -/
theorem reset_store_wf : State.reset.store.wf := by
  constructor
  · exact List.Pairwise.nil
  · intro c hc; cases hc

end Sys2Proof.Machine
end

