-- ==== Sys2Proof/Laws/Ops.lean ====
section
/-! SUPPORT. What each shared operation can do, said once: which blocks it leaves alone (one simp lemma per
operation and block) and what it does to the blocks it changes. -/

namespace Sys2Proof.Machine

/-! ### Admission to the outbox (R155 to R157) -/

@[simp] theorem UpLane.drop_outbox (u : UpLane) : u.drop.outbox = u.outbox := rfl
@[simp] theorem UpLane.drop_reserved (u : UpLane) : u.drop.reserved = u.reserved := rfl

theorem satSucc_le (limit n : Nat) : satSucc limit n ≤ limit := by
  unfold satSucc; split <;> omega

theorem count16_le (n : Nat) : count16 n ≤ 65535 := satSucc_le _ _

/-- All that offering packets and notices does to the up-lane transmitter: packets join the end of the outbox
beside the reservation, losses are counted, and nothing else changes (R156, R157). -/
structure UpLane.Offered (u v : UpLane) : Prop where
  outbox : ∃ ps, v.outbox = u.outbox ++ ps
  reserved : v.reserved = u.reserved
  relay : v.relay = u.relay
  sendCredits : v.sendCredits = u.sendCredits
  creditsOwed : v.creditsOwed = u.creditsOwed
  turn : v.turn = u.turn
  relayOverflow : v.relayOverflow = u.relayOverflow
  sending : v.sending = u.sending
  room : u.outbox.length + u.reserved ≤ Config.outboxSize → v.outbox.length + v.reserved ≤ Config.outboxSize
  drops : u.upDrops ≤ 65535 → v.upDrops ≤ 65535
  lost : u.lost ≤ 255 → v.lost ≤ 255

theorem UpLane.Offered.refl (u : UpLane) : UpLane.Offered u u :=
  ⟨⟨[], by simp⟩, rfl, rfl, rfl, rfl, rfl, rfl, rfl, id, id, id⟩

theorem UpLane.Offered.trans {u v w : UpLane} (h : UpLane.Offered u v) (k : UpLane.Offered v w) :
    UpLane.Offered u w := by
  obtain ⟨p, hp⟩ := h.outbox
  obtain ⟨q, hq⟩ := k.outbox
  exact ⟨⟨p ++ q, by rw [hq, hp, List.append_assoc]⟩, k.reserved.trans h.reserved, k.relay.trans h.relay,
    k.sendCredits.trans h.sendCredits, k.creditsOwed.trans h.creditsOwed, k.turn.trans h.turn,
    k.relayOverflow.trans h.relayOverflow, k.sending.trans h.sending, k.room ∘ h.room, k.drops ∘ h.drops,
    k.lost ∘ h.lost⟩

theorem UpLane.drop_offered (u : UpLane) : UpLane.Offered u u.drop :=
  ⟨⟨[], by simp⟩, rfl, rfl, rfl, rfl, rfl, rfl, rfl, id, fun _ => count16_le _, fun _ => satSucc_le _ _⟩

theorem UpLane.offerReply_offered (u : UpLane) (r : Reply) : UpLane.Offered u (u.offerReply r) := by
  unfold UpLane.offerReply
  split
  · rename_i h
    refine ⟨⟨_, rfl⟩, rfl, rfl, rfl, rfl, rfl, rfl, rfl, ?_, id, id⟩
    intro _
    simp only [UpLane.free] at h
    simp only [List.length_append, List.length_cons, List.length_nil]
    omega
  · exact u.drop_offered

theorem UpLane.offerNotice_offered (u : UpLane) (address : Nat) (kind : NoticeKind) (payload : List Byte) :
    UpLane.Offered u (u.offerNotice address kind payload) := by
  unfold UpLane.offerNotice
  split
  · rename_i h
    refine ⟨⟨_, rfl⟩, rfl, rfl, rfl, rfl, rfl, rfl, rfl, ?_, id, fun _ => by simp⟩
    intro _
    simp only [UpLane.free] at h
    simp only [List.length_append, List.length_cons, List.length_nil]
    omega
  · exact u.drop_offered

/-- An unreserved reply is admitted when the free slots exceed the reservation count (R156). -/
theorem UpLane.offerReply_admitted (u : UpLane) (r : Reply) (h : u.reserved < u.free) :
    u.offerReply r = { u with outbox := u.outbox ++ [.reply r] } := by simp [UpLane.offerReply, h]

/-- It is dropped and counted otherwise (R156). -/
theorem UpLane.offerReply_dropped (u : UpLane) (r : Reply) (h : ¬ u.reserved < u.free) :
    u.offerReply r = u.drop := by simp [UpLane.offerReply, h]

/-! ### Offers of notices (R158, R159) -/

theorem State.offer_eq (s : State) (o : Offer) : ∃ u, UpLane.Offered s.up u ∧ s.offer o = s.withUp u := by
  unfold State.offer
  split
  · exact ⟨_, UpLane.offerNotice_offered .., rfl⟩
  · exact ⟨s.up, .refl _, rfl⟩

/-- Offers of one block change the up-lane transmitter alone, as offers do. -/
theorem State.offers_eq (os : List Offer) (s : State) :
    ∃ u, UpLane.Offered s.up u ∧ s.offers os = s.withUp u := by
  induction os generalizing s with
  | nil => exact ⟨s.up, .refl _, rfl⟩
  | cons o os ih =>
    obtain ⟨u, hu, he⟩ := s.offer_eq o
    obtain ⟨v, hv, hf⟩ := ih (s.offer o)
    refine ⟨v, ?_, ?_⟩
    · rw [he] at hv
      exact hu.trans hv
    · show (s.offer o).offers os = _
      rw [hf, he]
      rfl

theorem State.offerTogether_eq (fuel : Nat) (s : State) (blocks : List (List Offer)) :
    ∃ u n, UpLane.Offered s.up u ∧ State.offerTogether fuel s blocks = (s.withUp u).withOrderings n := by
  induction fuel generalizing s blocks with
  | zero =>
    obtain ⟨u, hu, he⟩ := State.offers_eq blocks.flatten s
    exact ⟨u, s.orderings, hu, he⟩
  | succ n ih =>
    unfold State.offerTogether
    split
    · exact ⟨s.up, s.orderings, .refl _, rfl⟩
    · obtain ⟨u, hu, he⟩ := State.offers_eq _ s
      exact ⟨u, s.orderings, hu, he⟩
    · dsimp only
      split
      · rename_i o _
        obtain ⟨u, hu, he⟩ := (s.withOrderings (s.orderings + 1)).offer_eq o
        rw [he]
        obtain ⟨v, m, hv, hf⟩ := ih ((s.withOrderings (s.orderings + 1)).withUp u) _
        exact ⟨v, m, hu.trans hv, hf⟩
      · obtain ⟨v, m, hv, hf⟩ := ih (s.withOrderings (s.orderings + 1)) _
        exact ⟨v, m, hv, hf⟩

/-- Offers that come together change the up-lane transmitter, as offers do, and the count of free choices. -/
theorem State.offerAll_eq (s : State) (blocks : List (List Offer)) :
    ∃ u n, UpLane.Offered s.up u ∧ s.offerAll blocks = (s.withUp u).withOrderings n :=
  State.offerTogether_eq _ _ _

theorem State.offerAll_offered (s : State) (blocks : List (List Offer)) :
    UpLane.Offered s.up (s.offerAll blocks).up := by
  obtain ⟨u, n, hu, he⟩ := s.offerAll_eq blocks
  rw [he]
  exact hu

/-- With no offers nothing happens. -/
theorem State.offerAll_none (s : State) (blocks : List (List Offer)) (h : blocks.flatten = []) :
    s.offerAll blocks = s := by
  simp [State.offerAll, h, State.offerTogether, State.offers]

@[simp] theorem State.offers_address (s : State) (os : List Offer) : (s.offers os).address = s.address := by
  obtain ⟨u, _, h⟩ := State.offers_eq os s; rw [h]; rfl
@[simp] theorem State.offers_badPackets (s : State) (os : List Offer) : (s.offers os).badPackets = s.badPackets := by
  obtain ⟨u, _, h⟩ := State.offers_eq os s; rw [h]; rfl
@[simp] theorem State.offers_tracker (s : State) (os : List Offer) : (s.offers os).tracker = s.tracker := by
  obtain ⟨u, _, h⟩ := State.offers_eq os s; rw [h]; rfl
@[simp] theorem State.offers_panes (s : State) (os : List Offer) : (s.offers os).panes = s.panes := by
  obtain ⟨u, _, h⟩ := State.offers_eq os s; rw [h]; rfl
@[simp] theorem State.offers_palette (s : State) (os : List Offer) : (s.offers os).palette = s.palette := by
  obtain ⟨u, _, h⟩ := State.offers_eq os s; rw [h]; rfl
@[simp] theorem State.offers_fade (s : State) (os : List Offer) : (s.offers os).fade = s.fade := by
  obtain ⟨u, _, h⟩ := State.offers_eq os s; rw [h]; rfl
@[simp] theorem State.offers_commitPending (s : State) (os : List Offer) : (s.offers os).commitPending = s.commitPending := by
  obtain ⟨u, _, h⟩ := State.offers_eq os s; rw [h]; rfl
@[simp] theorem State.offers_compositor (s : State) (os : List Offer) : (s.offers os).compositor = s.compositor := by
  obtain ⟨u, _, h⟩ := State.offers_eq os s; rw [h]; rfl
@[simp] theorem State.offers_store (s : State) (os : List Offer) : (s.offers os).store = s.store := by
  obtain ⟨u, _, h⟩ := State.offers_eq os s; rw [h]; rfl
@[simp] theorem State.offers_writer (s : State) (os : List Offer) : (s.offers os).writer = s.writer := by
  obtain ⟨u, _, h⟩ := State.offers_eq os s; rw [h]; rfl
@[simp] theorem State.offers_markers (s : State) (os : List Offer) : (s.offers os).markers = s.markers := by
  obtain ⟨u, _, h⟩ := State.offers_eq os s; rw [h]; rfl
@[simp] theorem State.offers_commands (s : State) (os : List Offer) : (s.offers os).commands = s.commands := by
  obtain ⟨u, _, h⟩ := State.offers_eq os s; rw [h]; rfl
@[simp] theorem State.offers_down (s : State) (os : List Offer) : (s.offers os).down = s.down := by
  obtain ⟨u, _, h⟩ := State.offers_eq os s; rw [h]; rfl
@[simp] theorem State.offers_orderings (s : State) (os : List Offer) : (s.offers os).orderings = s.orderings := by
  obtain ⟨u, _, h⟩ := State.offers_eq os s; rw [h]; rfl
@[simp] theorem State.offers_pending (s : State) (os : List Offer) : (s.offers os).pending = s.pending := by
  obtain ⟨u, _, h⟩ := State.offers_eq os s; rw [h]; rfl

@[simp] theorem State.offerAll_address (s : State) (bs : List (List Offer)) : (s.offerAll bs).address = s.address := by
  obtain ⟨u, n, _, h⟩ := s.offerAll_eq bs; rw [h]; rfl
@[simp] theorem State.offerAll_badPackets (s : State) (bs : List (List Offer)) : (s.offerAll bs).badPackets = s.badPackets := by
  obtain ⟨u, n, _, h⟩ := s.offerAll_eq bs; rw [h]; rfl
@[simp] theorem State.offerAll_tracker (s : State) (bs : List (List Offer)) : (s.offerAll bs).tracker = s.tracker := by
  obtain ⟨u, n, _, h⟩ := s.offerAll_eq bs; rw [h]; rfl
@[simp] theorem State.offerAll_panes (s : State) (bs : List (List Offer)) : (s.offerAll bs).panes = s.panes := by
  obtain ⟨u, n, _, h⟩ := s.offerAll_eq bs; rw [h]; rfl
@[simp] theorem State.offerAll_palette (s : State) (bs : List (List Offer)) : (s.offerAll bs).palette = s.palette := by
  obtain ⟨u, n, _, h⟩ := s.offerAll_eq bs; rw [h]; rfl
@[simp] theorem State.offerAll_fade (s : State) (bs : List (List Offer)) : (s.offerAll bs).fade = s.fade := by
  obtain ⟨u, n, _, h⟩ := s.offerAll_eq bs; rw [h]; rfl
@[simp] theorem State.offerAll_commitPending (s : State) (bs : List (List Offer)) : (s.offerAll bs).commitPending = s.commitPending := by
  obtain ⟨u, n, _, h⟩ := s.offerAll_eq bs; rw [h]; rfl
@[simp] theorem State.offerAll_compositor (s : State) (bs : List (List Offer)) : (s.offerAll bs).compositor = s.compositor := by
  obtain ⟨u, n, _, h⟩ := s.offerAll_eq bs; rw [h]; rfl
@[simp] theorem State.offerAll_store (s : State) (bs : List (List Offer)) : (s.offerAll bs).store = s.store := by
  obtain ⟨u, n, _, h⟩ := s.offerAll_eq bs; rw [h]; rfl
@[simp] theorem State.offerAll_writer (s : State) (bs : List (List Offer)) : (s.offerAll bs).writer = s.writer := by
  obtain ⟨u, n, _, h⟩ := s.offerAll_eq bs; rw [h]; rfl
@[simp] theorem State.offerAll_markers (s : State) (bs : List (List Offer)) : (s.offerAll bs).markers = s.markers := by
  obtain ⟨u, n, _, h⟩ := s.offerAll_eq bs; rw [h]; rfl
@[simp] theorem State.offerAll_commands (s : State) (bs : List (List Offer)) : (s.offerAll bs).commands = s.commands := by
  obtain ⟨u, n, _, h⟩ := s.offerAll_eq bs; rw [h]; rfl
@[simp] theorem State.offerAll_down (s : State) (bs : List (List Offer)) : (s.offerAll bs).down = s.down := by
  obtain ⟨u, n, _, h⟩ := s.offerAll_eq bs; rw [h]; rfl
@[simp] theorem State.offerAll_pending (s : State) (bs : List (List Offer)) : (s.offerAll bs).pending = s.pending := by
  obtain ⟨u, n, _, h⟩ := s.offerAll_eq bs; rw [h]; rfl

/-! ### The down lane -/

@[simp] theorem State.handDown_address (s : State) (p : DownPacket) : (s.handDown p).address = s.address := rfl
@[simp] theorem State.handDown_badPackets (s : State) (p : DownPacket) : (s.handDown p).badPackets = s.badPackets := rfl
@[simp] theorem State.handDown_tracker (s : State) (p : DownPacket) : (s.handDown p).tracker = s.tracker := rfl
@[simp] theorem State.handDown_panes (s : State) (p : DownPacket) : (s.handDown p).panes = s.panes := rfl
@[simp] theorem State.handDown_palette (s : State) (p : DownPacket) : (s.handDown p).palette = s.palette := rfl
@[simp] theorem State.handDown_fade (s : State) (p : DownPacket) : (s.handDown p).fade = s.fade := rfl
@[simp] theorem State.handDown_commitPending (s : State) (p : DownPacket) : (s.handDown p).commitPending = s.commitPending := rfl
@[simp] theorem State.handDown_compositor (s : State) (p : DownPacket) : (s.handDown p).compositor = s.compositor := rfl
@[simp] theorem State.handDown_store (s : State) (p : DownPacket) : (s.handDown p).store = s.store := rfl
@[simp] theorem State.handDown_writer (s : State) (p : DownPacket) : (s.handDown p).writer = s.writer := rfl
@[simp] theorem State.handDown_markers (s : State) (p : DownPacket) : (s.handDown p).markers = s.markers := rfl
@[simp] theorem State.handDown_commands (s : State) (p : DownPacket) : (s.handDown p).commands = s.commands := rfl
@[simp] theorem State.handDown_up (s : State) (p : DownPacket) : (s.handDown p).up = s.up := rfl
@[simp] theorem State.handDown_orderings (s : State) (p : DownPacket) : (s.handDown p).orderings = s.orderings := rfl
@[simp] theorem State.handDown_pending (s : State) (p : DownPacket) : (s.handDown p).pending = s.pending := rfl

@[simp] theorem State.handDown_waiting (s : State) (p : DownPacket) :
    (s.handDown p).down.waiting = s.down.waiting ++ [p] := rfl
@[simp] theorem State.handDown_emitting (s : State) (p : DownPacket) :
    (s.handDown p).down.emitting = s.down.emitting := rfl

@[simp] theorem State.handDownIf_address (s : State) (c : Bool) (p : DownPacket) : (s.handDownIf c p).address = s.address := by
  unfold State.handDownIf; split <;> rfl
@[simp] theorem State.handDownIf_badPackets (s : State) (c : Bool) (p : DownPacket) : (s.handDownIf c p).badPackets = s.badPackets := by
  unfold State.handDownIf; split <;> rfl
@[simp] theorem State.handDownIf_tracker (s : State) (c : Bool) (p : DownPacket) : (s.handDownIf c p).tracker = s.tracker := by
  unfold State.handDownIf; split <;> rfl
@[simp] theorem State.handDownIf_panes (s : State) (c : Bool) (p : DownPacket) : (s.handDownIf c p).panes = s.panes := by
  unfold State.handDownIf; split <;> rfl
@[simp] theorem State.handDownIf_palette (s : State) (c : Bool) (p : DownPacket) : (s.handDownIf c p).palette = s.palette := by
  unfold State.handDownIf; split <;> rfl
@[simp] theorem State.handDownIf_fade (s : State) (c : Bool) (p : DownPacket) : (s.handDownIf c p).fade = s.fade := by
  unfold State.handDownIf; split <;> rfl
@[simp] theorem State.handDownIf_commitPending (s : State) (c : Bool) (p : DownPacket) : (s.handDownIf c p).commitPending = s.commitPending := by
  unfold State.handDownIf; split <;> rfl
@[simp] theorem State.handDownIf_compositor (s : State) (c : Bool) (p : DownPacket) : (s.handDownIf c p).compositor = s.compositor := by
  unfold State.handDownIf; split <;> rfl
@[simp] theorem State.handDownIf_store (s : State) (c : Bool) (p : DownPacket) : (s.handDownIf c p).store = s.store := by
  unfold State.handDownIf; split <;> rfl
@[simp] theorem State.handDownIf_writer (s : State) (c : Bool) (p : DownPacket) : (s.handDownIf c p).writer = s.writer := by
  unfold State.handDownIf; split <;> rfl
@[simp] theorem State.handDownIf_markers (s : State) (c : Bool) (p : DownPacket) : (s.handDownIf c p).markers = s.markers := by
  unfold State.handDownIf; split <;> rfl
@[simp] theorem State.handDownIf_commands (s : State) (c : Bool) (p : DownPacket) : (s.handDownIf c p).commands = s.commands := by
  unfold State.handDownIf; split <;> rfl
@[simp] theorem State.handDownIf_up (s : State) (c : Bool) (p : DownPacket) : (s.handDownIf c p).up = s.up := by
  unfold State.handDownIf; split <;> rfl
@[simp] theorem State.handDownIf_orderings (s : State) (c : Bool) (p : DownPacket) : (s.handDownIf c p).orderings = s.orderings := by
  unfold State.handDownIf; split <;> rfl
@[simp] theorem State.handDownIf_pending (s : State) (c : Bool) (p : DownPacket) : (s.handDownIf c p).pending = s.pending := by
  unfold State.handDownIf; split <;> rfl

/-! ### Replies -/

@[simp] theorem State.replyUnreserved_address (s : State) (t : Half) (c : Byte) (st : Status) (p : List Byte) : (s.replyUnreserved t c st p).address = s.address := rfl
@[simp] theorem State.replyUnreserved_badPackets (s : State) (t : Half) (c : Byte) (st : Status) (p : List Byte) : (s.replyUnreserved t c st p).badPackets = s.badPackets := rfl
@[simp] theorem State.replyUnreserved_tracker (s : State) (t : Half) (c : Byte) (st : Status) (p : List Byte) : (s.replyUnreserved t c st p).tracker = s.tracker := rfl
@[simp] theorem State.replyUnreserved_panes (s : State) (t : Half) (c : Byte) (st : Status) (p : List Byte) : (s.replyUnreserved t c st p).panes = s.panes := rfl
@[simp] theorem State.replyUnreserved_palette (s : State) (t : Half) (c : Byte) (st : Status) (p : List Byte) : (s.replyUnreserved t c st p).palette = s.palette := rfl
@[simp] theorem State.replyUnreserved_fade (s : State) (t : Half) (c : Byte) (st : Status) (p : List Byte) : (s.replyUnreserved t c st p).fade = s.fade := rfl
@[simp] theorem State.replyUnreserved_commitPending (s : State) (t : Half) (c : Byte) (st : Status) (p : List Byte) : (s.replyUnreserved t c st p).commitPending = s.commitPending := rfl
@[simp] theorem State.replyUnreserved_compositor (s : State) (t : Half) (c : Byte) (st : Status) (p : List Byte) : (s.replyUnreserved t c st p).compositor = s.compositor := rfl
@[simp] theorem State.replyUnreserved_store (s : State) (t : Half) (c : Byte) (st : Status) (p : List Byte) : (s.replyUnreserved t c st p).store = s.store := rfl
@[simp] theorem State.replyUnreserved_writer (s : State) (t : Half) (c : Byte) (st : Status) (p : List Byte) : (s.replyUnreserved t c st p).writer = s.writer := rfl
@[simp] theorem State.replyUnreserved_markers (s : State) (t : Half) (c : Byte) (st : Status) (p : List Byte) : (s.replyUnreserved t c st p).markers = s.markers := rfl
@[simp] theorem State.replyUnreserved_commands (s : State) (t : Half) (c : Byte) (st : Status) (p : List Byte) : (s.replyUnreserved t c st p).commands = s.commands := rfl
@[simp] theorem State.replyUnreserved_down (s : State) (t : Half) (c : Byte) (st : Status) (p : List Byte) : (s.replyUnreserved t c st p).down = s.down := rfl
@[simp] theorem State.replyUnreserved_orderings (s : State) (t : Half) (c : Byte) (st : Status) (p : List Byte) : (s.replyUnreserved t c st p).orderings = s.orderings := rfl
@[simp] theorem State.replyUnreserved_pending (s : State) (t : Half) (c : Byte) (st : Status) (p : List Byte) : (s.replyUnreserved t c st p).pending = s.pending := rfl

@[simp] theorem State.replyReserved_address (s : State) (t : Half) (c : Byte) (st : Status) (k : Option Cursor) (p : List Byte) : (s.replyReserved t c st k p).address = s.address := rfl
@[simp] theorem State.replyReserved_badPackets (s : State) (t : Half) (c : Byte) (st : Status) (k : Option Cursor) (p : List Byte) : (s.replyReserved t c st k p).badPackets = s.badPackets := rfl
@[simp] theorem State.replyReserved_tracker (s : State) (t : Half) (c : Byte) (st : Status) (k : Option Cursor) (p : List Byte) : (s.replyReserved t c st k p).tracker = s.tracker := rfl
@[simp] theorem State.replyReserved_panes (s : State) (t : Half) (c : Byte) (st : Status) (k : Option Cursor) (p : List Byte) : (s.replyReserved t c st k p).panes = s.panes := rfl
@[simp] theorem State.replyReserved_palette (s : State) (t : Half) (c : Byte) (st : Status) (k : Option Cursor) (p : List Byte) : (s.replyReserved t c st k p).palette = s.palette := rfl
@[simp] theorem State.replyReserved_fade (s : State) (t : Half) (c : Byte) (st : Status) (k : Option Cursor) (p : List Byte) : (s.replyReserved t c st k p).fade = s.fade := rfl
@[simp] theorem State.replyReserved_commitPending (s : State) (t : Half) (c : Byte) (st : Status) (k : Option Cursor) (p : List Byte) : (s.replyReserved t c st k p).commitPending = s.commitPending := rfl
@[simp] theorem State.replyReserved_compositor (s : State) (t : Half) (c : Byte) (st : Status) (k : Option Cursor) (p : List Byte) : (s.replyReserved t c st k p).compositor = s.compositor := rfl
@[simp] theorem State.replyReserved_store (s : State) (t : Half) (c : Byte) (st : Status) (k : Option Cursor) (p : List Byte) : (s.replyReserved t c st k p).store = s.store := rfl
@[simp] theorem State.replyReserved_writer (s : State) (t : Half) (c : Byte) (st : Status) (k : Option Cursor) (p : List Byte) : (s.replyReserved t c st k p).writer = s.writer := rfl
@[simp] theorem State.replyReserved_markers (s : State) (t : Half) (c : Byte) (st : Status) (k : Option Cursor) (p : List Byte) : (s.replyReserved t c st k p).markers = s.markers := rfl
@[simp] theorem State.replyReserved_down (s : State) (t : Half) (c : Byte) (st : Status) (k : Option Cursor) (p : List Byte) : (s.replyReserved t c st k p).down = s.down := rfl
@[simp] theorem State.replyReserved_orderings (s : State) (t : Half) (c : Byte) (st : Status) (k : Option Cursor) (p : List Byte) : (s.replyReserved t c st k p).orderings = s.orderings := rfl
@[simp] theorem State.replyReserved_pending (s : State) (t : Half) (c : Byte) (st : Status) (k : Option Cursor) (p : List Byte) : (s.replyReserved t c st k p).pending = s.pending := rfl

theorem CommandUnit.remember_eq (c : CommandUnit) (e : CacheEntry) :
    c.remember e = { c with cache := (c.remember e).cache } := by
  unfold CommandUnit.remember; split <;> rfl

@[simp] theorem CommandUnit.remember_queue (c : CommandUnit) (e : CacheEntry) : (c.remember e).queue = c.queue := by
  unfold CommandUnit.remember; split <;> rfl
@[simp] theorem CommandUnit.remember_config (c : CommandUnit) (e : CacheEntry) : (c.remember e).config = c.config := by
  unfold CommandUnit.remember; split <;> rfl
@[simp] theorem CommandUnit.remember_drops (c : CommandUnit) (e : CacheEntry) : (c.remember e).drops = c.drops := by
  unfold CommandUnit.remember; split <;> rfl
@[simp] theorem State.replyReserved_queue (s : State) (t : Half) (c : Byte) (st : Status) (k : Option Cursor)
    (p : List Byte) : (s.replyReserved t c st k p).commands.queue = s.commands.queue := by
  simp [State.replyReserved]
@[simp] theorem State.replyReserved_config (s : State) (t : Half) (c : Byte) (st : Status) (k : Option Cursor)
    (p : List Byte) : (s.replyReserved t c st k p).commands.config = s.commands.config := by
  simp [State.replyReserved]
@[simp] theorem State.replyReserved_drops (s : State) (t : Half) (c : Byte) (st : Status) (k : Option Cursor)
    (p : List Byte) : (s.replyReserved t c st k p).commands.drops = s.commands.drops := by
  simp [State.replyReserved]

/-- What a reserved reply does to the up-lane transmitter (R155). -/
@[simp] theorem State.replyReserved_up (s : State) (t : Half) (c : Byte) (st : Status) (k : Option Cursor)
    (p : List Byte) : (s.replyReserved t c st k p).up =
      { s.up with outbox := s.up.outbox ++ [.reply ⟨s.address, t, c, st, false, k, p⟩], reserved := s.up.reserved - 1 } :=
  rfl

/-- The cache after an entry is placed: it is the newest, no other entry has its tag, and every other entry was
there before (R142). -/
theorem cacheInsert_spec (cache : List CacheEntry) (e : CacheEntry) :
    ∃ kept, cacheInsert cache e = kept ++ [e] ∧ kept.Sublist cache := by
  unfold cacheInsert
  dsimp only
  split
  · exact ⟨_, rfl, List.filter_sublist⟩
  · split
    · exact ⟨_, rfl, List.Sublist.refl _⟩
    · exact ⟨_, rfl, List.drop_sublist _ _⟩

theorem cacheInsert_length (cache : List CacheEntry) (e : CacheEntry) (h : cache.length ≤ Config.cacheSize) :
    (cacheInsert cache e).length ≤ Config.cacheSize := by
  have h8 : Config.cacheSize = 8 := rfl
  unfold cacheInsert
  dsimp only
  split
  · simp only [List.length_append, List.length_cons, List.length_nil]; omega
  · split
    · simp only [List.length_append, List.length_cons, List.length_nil]; omega
    · simp only [List.length_append, List.length_drop, List.length_cons, List.length_nil]; omega

/-- Placing an entry keeps the tags distinct (R142). -/
theorem cacheInsert_distinct (cache : List CacheEntry) (e : CacheEntry) (h : cacheTagsDistinct cache)
    (he : e.tag ≠ 0) : cacheTagsDistinct (cacheInsert cache e) := by
  have key : ∀ kept : List CacheEntry, kept.Sublist cache → (∀ c ∈ kept, c.tag ≠ e.tag) →
      cacheTagsDistinct (kept ++ [e]) := by
    intro kept hs hne
    refine ⟨?_, ?_⟩
    · rw [List.map_append, List.nodup_append]
      refine ⟨h.1.sublist (hs.map _), by simp, ?_⟩
      intro a ha b hb
      obtain ⟨c, hc, rfl⟩ := List.mem_map.mp ha
      simp only [List.map_cons, List.map_nil, List.mem_singleton] at hb
      rw [hb]
      exact hne c hc
    · rw [List.map_append, List.mem_append]
      rintro (h0 | h0)
      · exact h.2 ((hs.map _).mem h0)
      · simp only [List.map_cons, List.map_nil, List.mem_singleton] at h0
        exact he h0.symm
  have hfull : ¬ (cache.filter (fun c => decide (c.tag ≠ e.tag))).length < cache.length →
      ∀ c ∈ cache, c.tag ≠ e.tag := by
    intro hl c hc
    have hl' : (cache.filter (fun c => decide (c.tag ≠ e.tag))).length = cache.length :=
      Nat.le_antisymm (List.length_filter_le _ _) (Nat.le_of_not_lt hl)
    have := (List.length_filter_eq_length_iff.mp hl') c hc
    simpa using this
  unfold cacheInsert
  dsimp only
  split
  · exact key _ List.filter_sublist (fun c hc => by simpa using (List.mem_filter.mp hc).2)
  · rename_i hl
    split
    · exact key _ (List.Sublist.refl _) (hfull hl)
    · exact key _ (List.drop_sublist _ _) (fun c hc => hfull hl c (List.mem_of_mem_drop hc))

/-! ### The command queue -/

@[simp] theorem State.popQueue_address (s : State) : (s.popQueue).address = s.address := rfl
@[simp] theorem State.popQueue_badPackets (s : State) : (s.popQueue).badPackets = s.badPackets := rfl
@[simp] theorem State.popQueue_tracker (s : State) : (s.popQueue).tracker = s.tracker := rfl
@[simp] theorem State.popQueue_panes (s : State) : (s.popQueue).panes = s.panes := rfl
@[simp] theorem State.popQueue_palette (s : State) : (s.popQueue).palette = s.palette := rfl
@[simp] theorem State.popQueue_fade (s : State) : (s.popQueue).fade = s.fade := rfl
@[simp] theorem State.popQueue_commitPending (s : State) : (s.popQueue).commitPending = s.commitPending := rfl
@[simp] theorem State.popQueue_compositor (s : State) : (s.popQueue).compositor = s.compositor := rfl
@[simp] theorem State.popQueue_store (s : State) : (s.popQueue).store = s.store := rfl
@[simp] theorem State.popQueue_writer (s : State) : (s.popQueue).writer = s.writer := rfl
@[simp] theorem State.popQueue_markers (s : State) : (s.popQueue).markers = s.markers := rfl
@[simp] theorem State.popQueue_up (s : State) : (s.popQueue).up = s.up := rfl
@[simp] theorem State.popQueue_down (s : State) : (s.popQueue).down = s.down := rfl
@[simp] theorem State.popQueue_orderings (s : State) : (s.popQueue).orderings = s.orderings := rfl
@[simp] theorem State.popQueue_pending (s : State) : (s.popQueue).pending = s.pending := rfl

@[simp] theorem State.complete_address (s : State) (e : Entry) (st : Status) (p : List Byte) : (s.complete e st p).address = s.address := by
  unfold State.complete; split <;> rfl
@[simp] theorem State.complete_badPackets (s : State) (e : Entry) (st : Status) (p : List Byte) : (s.complete e st p).badPackets = s.badPackets := by
  unfold State.complete; split <;> rfl
@[simp] theorem State.complete_tracker (s : State) (e : Entry) (st : Status) (p : List Byte) : (s.complete e st p).tracker = s.tracker := by
  unfold State.complete; split <;> rfl
@[simp] theorem State.complete_panes (s : State) (e : Entry) (st : Status) (p : List Byte) : (s.complete e st p).panes = s.panes := by
  unfold State.complete; split <;> rfl
@[simp] theorem State.complete_palette (s : State) (e : Entry) (st : Status) (p : List Byte) : (s.complete e st p).palette = s.palette := by
  unfold State.complete; split <;> rfl
@[simp] theorem State.complete_fade (s : State) (e : Entry) (st : Status) (p : List Byte) : (s.complete e st p).fade = s.fade := by
  unfold State.complete; split <;> rfl
@[simp] theorem State.complete_commitPending (s : State) (e : Entry) (st : Status) (p : List Byte) : (s.complete e st p).commitPending = s.commitPending := by
  unfold State.complete; split <;> rfl
@[simp] theorem State.complete_compositor (s : State) (e : Entry) (st : Status) (p : List Byte) : (s.complete e st p).compositor = s.compositor := by
  unfold State.complete; split <;> rfl
@[simp] theorem State.complete_store (s : State) (e : Entry) (st : Status) (p : List Byte) : (s.complete e st p).store = s.store := by
  unfold State.complete; split <;> rfl
@[simp] theorem State.complete_writer (s : State) (e : Entry) (st : Status) (p : List Byte) : (s.complete e st p).writer = s.writer := by
  unfold State.complete; split <;> rfl
@[simp] theorem State.complete_markers (s : State) (e : Entry) (st : Status) (p : List Byte) : (s.complete e st p).markers = s.markers := by
  unfold State.complete; split <;> rfl
@[simp] theorem State.complete_down (s : State) (e : Entry) (st : Status) (p : List Byte) : (s.complete e st p).down = s.down := by
  unfold State.complete; split <;> rfl
@[simp] theorem State.complete_orderings (s : State) (e : Entry) (st : Status) (p : List Byte) : (s.complete e st p).orderings = s.orderings := by
  unfold State.complete; split <;> rfl
@[simp] theorem State.complete_pending (s : State) (e : Entry) (st : Status) (p : List Byte) : (s.complete e st p).pending = s.pending := by
  unfold State.complete; split <;> rfl

@[simp] theorem State.complete_queue (s : State) (e : Entry) (st : Status) (p : List Byte) :
    (s.complete e st p).commands.queue = s.commands.queue.tail := by
  unfold State.complete; split <;> simp [State.popQueue]
@[simp] theorem State.complete_config (s : State) (e : Entry) (st : Status) (p : List Byte) :
    (s.complete e st p).commands.config = s.commands.config := by
  unfold State.complete; split <;> simp [State.popQueue]
@[simp] theorem State.complete_drops (s : State) (e : Entry) (st : Status) (p : List Byte) :
    (s.complete e st p).commands.drops = s.commands.drops := by
  unfold State.complete; split <;> simp [State.popQueue]

/-- The head that is due is the head of the queue. -/
theorem State.readyHead_some (s : State) (e : Entry) (h : s.readyHead = some e) :
    s.headState = .ready ∧ ∃ rest, s.commands.queue = e :: rest := by
  unfold State.readyHead at h
  split at h
  · rename_i hr
    refine ⟨hr, ?_⟩
    cases hq : s.commands.queue with
    | nil => simp [hq] at h
    | cons a rest => simp [hq] at h; exact ⟨rest, by rw [h]⟩
  · cases h

/-- A staging command at the head is due exactly when no commit is pending (R74). -/
theorem State.readyHead_staging (s : State) (e : Entry) (rest : List Entry) (hq : s.commands.queue = e :: rest)
    (hc : requestClass e.request = .staging) :
    s.readyHead = if s.commitPending then none else some e := by
  unfold State.readyHead State.headState
  rw [hq]
  simp only [hc]
  cases s.commitPending <;> simp

/-- A store command at the head is due exactly when the job queue has room (R87). -/
theorem State.readyHead_store (s : State) (e : Entry) (rest : List Entry) (hq : s.commands.queue = e :: rest)
    (hc : requestClass e.request = .store) :
    s.readyHead = if s.writer.jobs.length < 4 then some e else none := by
  unfold State.readyHead State.headState
  rw [hq]
  simp only [hc, Config.jobQueueSize]
  by_cases h : 4 ≤ s.writer.jobs.length
  · simp [h, Nat.not_lt.mpr h]
  · simp [h, Nat.lt_of_not_le h]

/-- Any other command at the head is due (R139). -/
theorem State.readyHead_other (s : State) (e : Entry) (rest : List Entry) (hq : s.commands.queue = e :: rest)
    (hc : requestClass e.request = .other) : s.readyHead = some e := by
  unfold State.readyHead State.headState
  rw [hq]
  simp [hc]

/-! ### Store jobs -/

@[simp] theorem State.endJob_address (s : State) (t : Half) (c : Byte) (e : Ending) : (s.endJob t c e).address = s.address := rfl
@[simp] theorem State.endJob_badPackets (s : State) (t : Half) (c : Byte) (e : Ending) : (s.endJob t c e).badPackets = s.badPackets := rfl
@[simp] theorem State.endJob_tracker (s : State) (t : Half) (c : Byte) (e : Ending) : (s.endJob t c e).tracker = s.tracker := rfl
@[simp] theorem State.endJob_panes (s : State) (t : Half) (c : Byte) (e : Ending) : (s.endJob t c e).panes = s.panes := rfl
@[simp] theorem State.endJob_palette (s : State) (t : Half) (c : Byte) (e : Ending) : (s.endJob t c e).palette = s.palette := rfl
@[simp] theorem State.endJob_fade (s : State) (t : Half) (c : Byte) (e : Ending) : (s.endJob t c e).fade = s.fade := rfl
@[simp] theorem State.endJob_commitPending (s : State) (t : Half) (c : Byte) (e : Ending) : (s.endJob t c e).commitPending = s.commitPending := rfl
@[simp] theorem State.endJob_compositor (s : State) (t : Half) (c : Byte) (e : Ending) : (s.endJob t c e).compositor = s.compositor := rfl
@[simp] theorem State.endJob_store (s : State) (t : Half) (c : Byte) (e : Ending) : (s.endJob t c e).store = s.store := rfl
@[simp] theorem State.endJob_writer (s : State) (t : Half) (c : Byte) (e : Ending) : (s.endJob t c e).writer = s.writer := rfl
@[simp] theorem State.endJob_markers (s : State) (t : Half) (c : Byte) (e : Ending) : (s.endJob t c e).markers = s.markers := rfl
@[simp] theorem State.endJob_down (s : State) (t : Half) (c : Byte) (e : Ending) : (s.endJob t c e).down = s.down := rfl
@[simp] theorem State.endJob_orderings (s : State) (t : Half) (c : Byte) (e : Ending) : (s.endJob t c e).orderings = s.orderings := rfl
@[simp] theorem State.endJob_pending (s : State) (t : Half) (c : Byte) (e : Ending) : (s.endJob t c e).pending = s.pending := rfl

/-- All that starting jobs does: the writer's jobs, window, cursor and running job, and the replies of the jobs
that end at once (R86, R88, R90). The allowance stays. -/
theorem State.startJobs_eq (jobs : List Job) (s : State) :
    ∃ w u c, State.startJobs jobs s = ((s.withWriter w).withUp u).withCommands { s.commands with cache := c }
      ∧ w.allowance = s.writer.allowance := by
  induction jobs generalizing s with
  | nil => exact ⟨{ s.writer with jobs := [], running := none }, s.up, s.commands.cache, rfl, rfl⟩
  | cons j rest ih =>
    have hall : ∀ (w : StoreWriter) (k : Work), (w.startJob k).1.allowance = w.allowance := by
      intro w k
      cases k <;> simp only [StoreWriter.startJob] <;> repeat (first | rfl | split)
    unfold State.startJobs
    split
    · rename_i w e he
      obtain ⟨w', u, c, h, ha⟩ := ih ((s.withWriter w).endJob j.tag (workCode j.work) e)
      refine ⟨w', u, c, ?_, ?_⟩
      · rw [h]
        simp only [State.endJob, State.replyReserved]
        rw [CommandUnit.remember_eq]
        rfl
      · rw [ha, State.endJob_writer, State.withWriter_writer]
        have := hall { s.writer with jobs := rest, running := none } j.work
        rw [he] at this
        exact this
    · rename_i w p he
      refine ⟨{ w with running := some ⟨j.tag, p⟩ }, s.up, s.commands.cache, rfl, ?_⟩
      have := hall { s.writer with jobs := rest, running := none } j.work
      rw [he] at this
      exact this

@[simp] theorem State.startJobs_address (s : State) (jobs : List Job) : (State.startJobs jobs s).address = s.address := by
  obtain ⟨w, u, c, h, _⟩ := State.startJobs_eq jobs s; rw [h]; rfl
@[simp] theorem State.startJobs_badPackets (s : State) (jobs : List Job) : (State.startJobs jobs s).badPackets = s.badPackets := by
  obtain ⟨w, u, c, h, _⟩ := State.startJobs_eq jobs s; rw [h]; rfl
@[simp] theorem State.startJobs_tracker (s : State) (jobs : List Job) : (State.startJobs jobs s).tracker = s.tracker := by
  obtain ⟨w, u, c, h, _⟩ := State.startJobs_eq jobs s; rw [h]; rfl
@[simp] theorem State.startJobs_panes (s : State) (jobs : List Job) : (State.startJobs jobs s).panes = s.panes := by
  obtain ⟨w, u, c, h, _⟩ := State.startJobs_eq jobs s; rw [h]; rfl
@[simp] theorem State.startJobs_palette (s : State) (jobs : List Job) : (State.startJobs jobs s).palette = s.palette := by
  obtain ⟨w, u, c, h, _⟩ := State.startJobs_eq jobs s; rw [h]; rfl
@[simp] theorem State.startJobs_fade (s : State) (jobs : List Job) : (State.startJobs jobs s).fade = s.fade := by
  obtain ⟨w, u, c, h, _⟩ := State.startJobs_eq jobs s; rw [h]; rfl
@[simp] theorem State.startJobs_commitPending (s : State) (jobs : List Job) : (State.startJobs jobs s).commitPending = s.commitPending := by
  obtain ⟨w, u, c, h, _⟩ := State.startJobs_eq jobs s; rw [h]; rfl
@[simp] theorem State.startJobs_compositor (s : State) (jobs : List Job) : (State.startJobs jobs s).compositor = s.compositor := by
  obtain ⟨w, u, c, h, _⟩ := State.startJobs_eq jobs s; rw [h]; rfl
@[simp] theorem State.startJobs_store (s : State) (jobs : List Job) : (State.startJobs jobs s).store = s.store := by
  obtain ⟨w, u, c, h, _⟩ := State.startJobs_eq jobs s; rw [h]; rfl
@[simp] theorem State.startJobs_markers (s : State) (jobs : List Job) : (State.startJobs jobs s).markers = s.markers := by
  obtain ⟨w, u, c, h, _⟩ := State.startJobs_eq jobs s; rw [h]; rfl
@[simp] theorem State.startJobs_down (s : State) (jobs : List Job) : (State.startJobs jobs s).down = s.down := by
  obtain ⟨w, u, c, h, _⟩ := State.startJobs_eq jobs s; rw [h]; rfl
@[simp] theorem State.startJobs_orderings (s : State) (jobs : List Job) : (State.startJobs jobs s).orderings = s.orderings := by
  obtain ⟨w, u, c, h, _⟩ := State.startJobs_eq jobs s; rw [h]; rfl
@[simp] theorem State.startJobs_pending (s : State) (jobs : List Job) : (State.startJobs jobs s).pending = s.pending := by
  obtain ⟨w, u, c, h, _⟩ := State.startJobs_eq jobs s; rw [h]; rfl

@[simp] theorem State.startJobs_queue (s : State) (jobs : List Job) :
    (State.startJobs jobs s).commands.queue = s.commands.queue := by
  obtain ⟨w, u, c, h, _⟩ := State.startJobs_eq jobs s; rw [h]; rfl
@[simp] theorem State.startJobs_config (s : State) (jobs : List Job) :
    (State.startJobs jobs s).commands.config = s.commands.config := by
  obtain ⟨w, u, c, h, _⟩ := State.startJobs_eq jobs s; rw [h]; rfl
@[simp] theorem State.startJobs_drops (s : State) (jobs : List Job) :
    (State.startJobs jobs s).commands.drops = s.commands.drops := by
  obtain ⟨w, u, c, h, _⟩ := State.startJobs_eq jobs s; rw [h]; rfl
@[simp] theorem State.startJobs_allowance (s : State) (jobs : List Job) :
    (State.startJobs jobs s).writer.allowance = s.writer.allowance := by
  obtain ⟨w, u, c, h, ha⟩ := State.startJobs_eq jobs s; rw [h]; exact ha

@[simp] theorem State.startNext_address (s : State) : (s.startNext).address = s.address := by
  simp [State.startNext]
@[simp] theorem State.startNext_badPackets (s : State) : (s.startNext).badPackets = s.badPackets := by
  simp [State.startNext]
@[simp] theorem State.startNext_tracker (s : State) : (s.startNext).tracker = s.tracker := by
  simp [State.startNext]
@[simp] theorem State.startNext_panes (s : State) : (s.startNext).panes = s.panes := by
  simp [State.startNext]
@[simp] theorem State.startNext_palette (s : State) : (s.startNext).palette = s.palette := by
  simp [State.startNext]
@[simp] theorem State.startNext_fade (s : State) : (s.startNext).fade = s.fade := by
  simp [State.startNext]
@[simp] theorem State.startNext_commitPending (s : State) : (s.startNext).commitPending = s.commitPending := by
  simp [State.startNext]
@[simp] theorem State.startNext_compositor (s : State) : (s.startNext).compositor = s.compositor := by
  simp [State.startNext]
@[simp] theorem State.startNext_store (s : State) : (s.startNext).store = s.store := by
  simp [State.startNext]
@[simp] theorem State.startNext_markers (s : State) : (s.startNext).markers = s.markers := by
  simp [State.startNext]
@[simp] theorem State.startNext_down (s : State) : (s.startNext).down = s.down := by
  simp [State.startNext]
@[simp] theorem State.startNext_orderings (s : State) : (s.startNext).orderings = s.orderings := by
  simp [State.startNext]
@[simp] theorem State.startNext_pending (s : State) : (s.startNext).pending = s.pending := by
  simp [State.startNext]

@[simp] theorem State.handOver_address (s : State) (t : Half) (k : Work) : (s.handOver t k).address = s.address := by
  unfold State.handOver; dsimp only; split <;> simp
@[simp] theorem State.handOver_badPackets (s : State) (t : Half) (k : Work) : (s.handOver t k).badPackets = s.badPackets := by
  unfold State.handOver; dsimp only; split <;> simp
@[simp] theorem State.handOver_tracker (s : State) (t : Half) (k : Work) : (s.handOver t k).tracker = s.tracker := by
  unfold State.handOver; dsimp only; split <;> simp
@[simp] theorem State.handOver_panes (s : State) (t : Half) (k : Work) : (s.handOver t k).panes = s.panes := by
  unfold State.handOver; dsimp only; split <;> simp
@[simp] theorem State.handOver_palette (s : State) (t : Half) (k : Work) : (s.handOver t k).palette = s.palette := by
  unfold State.handOver; dsimp only; split <;> simp
@[simp] theorem State.handOver_fade (s : State) (t : Half) (k : Work) : (s.handOver t k).fade = s.fade := by
  unfold State.handOver; dsimp only; split <;> simp
@[simp] theorem State.handOver_commitPending (s : State) (t : Half) (k : Work) : (s.handOver t k).commitPending = s.commitPending := by
  unfold State.handOver; dsimp only; split <;> simp
@[simp] theorem State.handOver_compositor (s : State) (t : Half) (k : Work) : (s.handOver t k).compositor = s.compositor := by
  unfold State.handOver; dsimp only; split <;> simp
@[simp] theorem State.handOver_store (s : State) (t : Half) (k : Work) : (s.handOver t k).store = s.store := by
  unfold State.handOver; dsimp only; split <;> simp
@[simp] theorem State.handOver_markers (s : State) (t : Half) (k : Work) : (s.handOver t k).markers = s.markers := by
  unfold State.handOver; dsimp only; split <;> simp
@[simp] theorem State.handOver_down (s : State) (t : Half) (k : Work) : (s.handOver t k).down = s.down := by
  unfold State.handOver; dsimp only; split <;> simp
@[simp] theorem State.handOver_orderings (s : State) (t : Half) (k : Work) : (s.handOver t k).orderings = s.orderings := by
  unfold State.handOver; dsimp only; split <;> simp
@[simp] theorem State.handOver_pending (s : State) (t : Half) (k : Work) : (s.handOver t k).pending = s.pending := by
  unfold State.handOver; dsimp only; split <;> simp

/-- All that one pixel of work does: the store, the writer, the outbox, and the reply cache. -/
theorem State.workPixel_eq (s : State) : ∃ st w u c,
    s.workPixel = (((s.withStore st).withWriter w).withUp u).withCommands { s.commands with cache := c } := by
  have next : ∀ t : State, ∃ w u c, t.startNext =
      ((t.withWriter w).withUp u).withCommands { t.commands with cache := c } := by
    intro t
    obtain ⟨w, u, c, h, _⟩ := State.startJobs_eq t.writer.jobs t
    exact ⟨w, u, c, h⟩
  unfold State.workPixel
  dsimp only
  split
  · split
    · exact ⟨s.store.clearOne, { s.writer with allowance := s.writer.allowance - 1 }, s.up, s.commands.cache, rfl⟩
    · obtain ⟨u, _, hu⟩ := ((s.withStore s.store.clearOne).withWriter
        { s.writer with allowance := s.writer.allowance - 1 }).offer_eq ⟨.clearDone, []⟩
      rw [hu]
      obtain ⟨w, v, c, h⟩ := next (((s.withStore s.store.clearOne).withWriter
        { s.writer with allowance := s.writer.allowance - 1 }).withUp u)
      exact ⟨s.store.clearOne, w, v, c, h⟩
  · cases s.writer.running with
    | none => exact ⟨s.store, s.writer, s.up, s.commands.cache, rfl⟩
    | some r =>
      dsimp only
      generalize StoreWriter.pixel _ _ _ = x
      obtain ⟨st, cursor, out⟩ := x
      cases out with
      | goesOn p =>
        exact ⟨st, { s.writer with cursor := cursor, running := some ⟨r.tag, p⟩, allowance := s.writer.allowance - 1 },
          s.up, s.commands.cache, rfl⟩
      | ended e =>
        dsimp only
        obtain ⟨w, v, c, h⟩ := next (((s.withStore st).withWriter
          { s.writer with cursor := cursor, running := none, allowance := s.writer.allowance - 1 }).endJob r.tag
          (progressCode r.progress) e)
        refine ⟨st, w, v, c, ?_⟩
        rw [h]
        simp only [State.endJob, State.replyReserved]
        rw [CommandUnit.remember_eq]
        rfl

@[simp] theorem State.workPixel_address (s : State) : (s.workPixel).address = s.address := by
  obtain ⟨st, w, u, c, h⟩ := s.workPixel_eq; rw [h]; rfl
@[simp] theorem State.workPixel_badPackets (s : State) : (s.workPixel).badPackets = s.badPackets := by
  obtain ⟨st, w, u, c, h⟩ := s.workPixel_eq; rw [h]; rfl
@[simp] theorem State.workPixel_tracker (s : State) : (s.workPixel).tracker = s.tracker := by
  obtain ⟨st, w, u, c, h⟩ := s.workPixel_eq; rw [h]; rfl
@[simp] theorem State.workPixel_panes (s : State) : (s.workPixel).panes = s.panes := by
  obtain ⟨st, w, u, c, h⟩ := s.workPixel_eq; rw [h]; rfl
@[simp] theorem State.workPixel_palette (s : State) : (s.workPixel).palette = s.palette := by
  obtain ⟨st, w, u, c, h⟩ := s.workPixel_eq; rw [h]; rfl
@[simp] theorem State.workPixel_fade (s : State) : (s.workPixel).fade = s.fade := by
  obtain ⟨st, w, u, c, h⟩ := s.workPixel_eq; rw [h]; rfl
@[simp] theorem State.workPixel_commitPending (s : State) : (s.workPixel).commitPending = s.commitPending := by
  obtain ⟨st, w, u, c, h⟩ := s.workPixel_eq; rw [h]; rfl
@[simp] theorem State.workPixel_compositor (s : State) : (s.workPixel).compositor = s.compositor := by
  obtain ⟨st, w, u, c, h⟩ := s.workPixel_eq; rw [h]; rfl
@[simp] theorem State.workPixel_markers (s : State) : (s.workPixel).markers = s.markers := by
  obtain ⟨st, w, u, c, h⟩ := s.workPixel_eq; rw [h]; rfl
@[simp] theorem State.workPixel_down (s : State) : (s.workPixel).down = s.down := by
  obtain ⟨st, w, u, c, h⟩ := s.workPixel_eq; rw [h]; rfl
@[simp] theorem State.workPixel_orderings (s : State) : (s.workPixel).orderings = s.orderings := by
  obtain ⟨st, w, u, c, h⟩ := s.workPixel_eq; rw [h]; rfl
@[simp] theorem State.workPixel_pending (s : State) : (s.workPixel).pending = s.pending := by
  obtain ⟨st, w, u, c, h⟩ := s.workPixel_eq; rw [h]; rfl

@[simp] theorem State.workPixel_queue (s : State) : s.workPixel.commands.queue = s.commands.queue := by
  obtain ⟨st, w, u, c, h⟩ := s.workPixel_eq; rw [h]; rfl
@[simp] theorem State.workPixel_config (s : State) : s.workPixel.commands.config = s.commands.config := by
  obtain ⟨st, w, u, c, h⟩ := s.workPixel_eq; rw [h]; rfl
@[simp] theorem State.workPixel_drops (s : State) : s.workPixel.commands.drops = s.commands.drops := by
  obtain ⟨st, w, u, c, h⟩ := s.workPixel_eq; rw [h]; rfl

@[simp] theorem State.workPixels_address (s : State) (n : Nat) : (State.workPixels n s).address = s.address := by
  induction n generalizing s with
  | zero => rfl
  | succ n ih => unfold State.workPixels; split <;> simp [ih]
@[simp] theorem State.workPixels_badPackets (s : State) (n : Nat) : (State.workPixels n s).badPackets = s.badPackets := by
  induction n generalizing s with
  | zero => rfl
  | succ n ih => unfold State.workPixels; split <;> simp [ih]
@[simp] theorem State.workPixels_tracker (s : State) (n : Nat) : (State.workPixels n s).tracker = s.tracker := by
  induction n generalizing s with
  | zero => rfl
  | succ n ih => unfold State.workPixels; split <;> simp [ih]
@[simp] theorem State.workPixels_panes (s : State) (n : Nat) : (State.workPixels n s).panes = s.panes := by
  induction n generalizing s with
  | zero => rfl
  | succ n ih => unfold State.workPixels; split <;> simp [ih]
@[simp] theorem State.workPixels_palette (s : State) (n : Nat) : (State.workPixels n s).palette = s.palette := by
  induction n generalizing s with
  | zero => rfl
  | succ n ih => unfold State.workPixels; split <;> simp [ih]
@[simp] theorem State.workPixels_fade (s : State) (n : Nat) : (State.workPixels n s).fade = s.fade := by
  induction n generalizing s with
  | zero => rfl
  | succ n ih => unfold State.workPixels; split <;> simp [ih]
@[simp] theorem State.workPixels_commitPending (s : State) (n : Nat) : (State.workPixels n s).commitPending = s.commitPending := by
  induction n generalizing s with
  | zero => rfl
  | succ n ih => unfold State.workPixels; split <;> simp [ih]
@[simp] theorem State.workPixels_compositor (s : State) (n : Nat) : (State.workPixels n s).compositor = s.compositor := by
  induction n generalizing s with
  | zero => rfl
  | succ n ih => unfold State.workPixels; split <;> simp [ih]
@[simp] theorem State.workPixels_markers (s : State) (n : Nat) : (State.workPixels n s).markers = s.markers := by
  induction n generalizing s with
  | zero => rfl
  | succ n ih => unfold State.workPixels; split <;> simp [ih]
@[simp] theorem State.workPixels_down (s : State) (n : Nat) : (State.workPixels n s).down = s.down := by
  induction n generalizing s with
  | zero => rfl
  | succ n ih => unfold State.workPixels; split <;> simp [ih]
@[simp] theorem State.workPixels_orderings (s : State) (n : Nat) : (State.workPixels n s).orderings = s.orderings := by
  induction n generalizing s with
  | zero => rfl
  | succ n ih => unfold State.workPixels; split <;> simp [ih]
@[simp] theorem State.workPixels_pending (s : State) (n : Nat) : (State.workPixels n s).pending = s.pending := by
  induction n generalizing s with
  | zero => rfl
  | succ n ih => unfold State.workPixels; split <;> simp [ih]

@[simp] theorem State.cancelWaiting_address (s : State) (jobs : List Job) : (s.cancelWaiting jobs).address = s.address := by
  unfold State.cancelWaiting; induction jobs generalizing s with
  | nil => rfl
  | cons j rest ih => simp [ih]
@[simp] theorem State.cancelWaiting_badPackets (s : State) (jobs : List Job) : (s.cancelWaiting jobs).badPackets = s.badPackets := by
  unfold State.cancelWaiting; induction jobs generalizing s with
  | nil => rfl
  | cons j rest ih => simp [ih]
@[simp] theorem State.cancelWaiting_tracker (s : State) (jobs : List Job) : (s.cancelWaiting jobs).tracker = s.tracker := by
  unfold State.cancelWaiting; induction jobs generalizing s with
  | nil => rfl
  | cons j rest ih => simp [ih]
@[simp] theorem State.cancelWaiting_panes (s : State) (jobs : List Job) : (s.cancelWaiting jobs).panes = s.panes := by
  unfold State.cancelWaiting; induction jobs generalizing s with
  | nil => rfl
  | cons j rest ih => simp [ih]
@[simp] theorem State.cancelWaiting_palette (s : State) (jobs : List Job) : (s.cancelWaiting jobs).palette = s.palette := by
  unfold State.cancelWaiting; induction jobs generalizing s with
  | nil => rfl
  | cons j rest ih => simp [ih]
@[simp] theorem State.cancelWaiting_fade (s : State) (jobs : List Job) : (s.cancelWaiting jobs).fade = s.fade := by
  unfold State.cancelWaiting; induction jobs generalizing s with
  | nil => rfl
  | cons j rest ih => simp [ih]
@[simp] theorem State.cancelWaiting_commitPending (s : State) (jobs : List Job) : (s.cancelWaiting jobs).commitPending = s.commitPending := by
  unfold State.cancelWaiting; induction jobs generalizing s with
  | nil => rfl
  | cons j rest ih => simp [ih]
@[simp] theorem State.cancelWaiting_compositor (s : State) (jobs : List Job) : (s.cancelWaiting jobs).compositor = s.compositor := by
  unfold State.cancelWaiting; induction jobs generalizing s with
  | nil => rfl
  | cons j rest ih => simp [ih]
@[simp] theorem State.cancelWaiting_store (s : State) (jobs : List Job) : (s.cancelWaiting jobs).store = s.store := by
  unfold State.cancelWaiting; induction jobs generalizing s with
  | nil => rfl
  | cons j rest ih => simp [ih]
@[simp] theorem State.cancelWaiting_writer (s : State) (jobs : List Job) : (s.cancelWaiting jobs).writer = s.writer := by
  unfold State.cancelWaiting; induction jobs generalizing s with
  | nil => rfl
  | cons j rest ih => simp [ih]
@[simp] theorem State.cancelWaiting_markers (s : State) (jobs : List Job) : (s.cancelWaiting jobs).markers = s.markers := by
  unfold State.cancelWaiting; induction jobs generalizing s with
  | nil => rfl
  | cons j rest ih => simp [ih]
@[simp] theorem State.cancelWaiting_down (s : State) (jobs : List Job) : (s.cancelWaiting jobs).down = s.down := by
  unfold State.cancelWaiting; induction jobs generalizing s with
  | nil => rfl
  | cons j rest ih => simp [ih]
@[simp] theorem State.cancelWaiting_orderings (s : State) (jobs : List Job) : (s.cancelWaiting jobs).orderings = s.orderings := by
  unfold State.cancelWaiting; induction jobs generalizing s with
  | nil => rfl
  | cons j rest ih => simp [ih]
@[simp] theorem State.cancelWaiting_pending (s : State) (jobs : List Job) : (s.cancelWaiting jobs).pending = s.pending := by
  unfold State.cancelWaiting; induction jobs generalizing s with
  | nil => rfl
  | cons j rest ih => simp [ih]

@[simp] theorem State.cancelJobs_address (s : State) : (s.cancelJobs).address = s.address := by
  unfold State.cancelJobs; dsimp only; split <;> simp
@[simp] theorem State.cancelJobs_badPackets (s : State) : (s.cancelJobs).badPackets = s.badPackets := by
  unfold State.cancelJobs; dsimp only; split <;> simp
@[simp] theorem State.cancelJobs_tracker (s : State) : (s.cancelJobs).tracker = s.tracker := by
  unfold State.cancelJobs; dsimp only; split <;> simp
@[simp] theorem State.cancelJobs_panes (s : State) : (s.cancelJobs).panes = s.panes := by
  unfold State.cancelJobs; dsimp only; split <;> simp
@[simp] theorem State.cancelJobs_palette (s : State) : (s.cancelJobs).palette = s.palette := by
  unfold State.cancelJobs; dsimp only; split <;> simp
@[simp] theorem State.cancelJobs_fade (s : State) : (s.cancelJobs).fade = s.fade := by
  unfold State.cancelJobs; dsimp only; split <;> simp
@[simp] theorem State.cancelJobs_commitPending (s : State) : (s.cancelJobs).commitPending = s.commitPending := by
  unfold State.cancelJobs; dsimp only; split <;> simp
@[simp] theorem State.cancelJobs_compositor (s : State) : (s.cancelJobs).compositor = s.compositor := by
  unfold State.cancelJobs; dsimp only; split <;> simp
@[simp] theorem State.cancelJobs_store (s : State) : (s.cancelJobs).store = s.store := by
  unfold State.cancelJobs; dsimp only; split <;> simp
@[simp] theorem State.cancelJobs_markers (s : State) : (s.cancelJobs).markers = s.markers := by
  unfold State.cancelJobs; dsimp only; split <;> simp
@[simp] theorem State.cancelJobs_down (s : State) : (s.cancelJobs).down = s.down := by
  unfold State.cancelJobs; dsimp only; split <;> simp
@[simp] theorem State.cancelJobs_orderings (s : State) : (s.cancelJobs).orderings = s.orderings := by
  unfold State.cancelJobs; dsimp only; split <;> simp
@[simp] theorem State.cancelJobs_pending (s : State) : (s.cancelJobs).pending = s.pending := by
  unfold State.cancelJobs; dsimp only; split <;> simp

/-! ### Frames and lines -/

@[simp] theorem State.recordShort_address (s : State) : (s.recordShort).address = s.address := rfl
@[simp] theorem State.recordShort_badPackets (s : State) : (s.recordShort).badPackets = s.badPackets := rfl
@[simp] theorem State.recordShort_panes (s : State) : (s.recordShort).panes = s.panes := rfl
@[simp] theorem State.recordShort_palette (s : State) : (s.recordShort).palette = s.palette := rfl
@[simp] theorem State.recordShort_fade (s : State) : (s.recordShort).fade = s.fade := rfl
@[simp] theorem State.recordShort_commitPending (s : State) : (s.recordShort).commitPending = s.commitPending := rfl
@[simp] theorem State.recordShort_compositor (s : State) : (s.recordShort).compositor = s.compositor := rfl
@[simp] theorem State.recordShort_store (s : State) : (s.recordShort).store = s.store := rfl
@[simp] theorem State.recordShort_writer (s : State) : (s.recordShort).writer = s.writer := rfl
@[simp] theorem State.recordShort_markers (s : State) : (s.recordShort).markers = s.markers := rfl
@[simp] theorem State.recordShort_commands (s : State) : (s.recordShort).commands = s.commands := rfl
@[simp] theorem State.recordShort_up (s : State) : (s.recordShort).up = s.up := rfl
@[simp] theorem State.recordShort_down (s : State) : (s.recordShort).down = s.down := rfl
@[simp] theorem State.recordShort_orderings (s : State) : (s.recordShort).orderings = s.orderings := rfl
@[simp] theorem State.recordShort_pending (s : State) : (s.recordShort).pending = s.pending := rfl

@[simp] theorem State.cutFrame_address (s : State) : (s.cutFrame).address = s.address := rfl
@[simp] theorem State.cutFrame_badPackets (s : State) : (s.cutFrame).badPackets = s.badPackets := rfl
@[simp] theorem State.cutFrame_panes (s : State) : (s.cutFrame).panes = s.panes := rfl
@[simp] theorem State.cutFrame_palette (s : State) : (s.cutFrame).palette = s.palette := rfl
@[simp] theorem State.cutFrame_fade (s : State) : (s.cutFrame).fade = s.fade := rfl
@[simp] theorem State.cutFrame_commitPending (s : State) : (s.cutFrame).commitPending = s.commitPending := rfl
@[simp] theorem State.cutFrame_compositor (s : State) : (s.cutFrame).compositor = s.compositor := rfl
@[simp] theorem State.cutFrame_store (s : State) : (s.cutFrame).store = s.store := rfl
@[simp] theorem State.cutFrame_writer (s : State) : (s.cutFrame).writer = s.writer := rfl
@[simp] theorem State.cutFrame_commands (s : State) : (s.cutFrame).commands = s.commands := rfl
@[simp] theorem State.cutFrame_up (s : State) : (s.cutFrame).up = s.up := rfl
@[simp] theorem State.cutFrame_down (s : State) : (s.cutFrame).down = s.down := rfl
@[simp] theorem State.cutFrame_orderings (s : State) : (s.cutFrame).orderings = s.orderings := rfl
@[simp] theorem State.cutFrame_pending (s : State) : (s.cutFrame).pending = s.pending := rfl

@[simp] theorem State.composeState_address (s : State) (y : Nat) : (s.composeState y).address = s.address := by
  unfold State.composeState; split <;> rfl
@[simp] theorem State.composeState_badPackets (s : State) (y : Nat) : (s.composeState y).badPackets = s.badPackets := by
  unfold State.composeState; split <;> rfl
@[simp] theorem State.composeState_tracker (s : State) (y : Nat) : (s.composeState y).tracker = s.tracker := by
  unfold State.composeState; split <;> rfl
@[simp] theorem State.composeState_panes (s : State) (y : Nat) : (s.composeState y).panes = s.panes := by
  unfold State.composeState; split <;> rfl
@[simp] theorem State.composeState_palette (s : State) (y : Nat) : (s.composeState y).palette = s.palette := by
  unfold State.composeState; split <;> rfl
@[simp] theorem State.composeState_fade (s : State) (y : Nat) : (s.composeState y).fade = s.fade := by
  unfold State.composeState; split <;> rfl
@[simp] theorem State.composeState_commitPending (s : State) (y : Nat) : (s.composeState y).commitPending = s.commitPending := by
  unfold State.composeState; split <;> rfl
@[simp] theorem State.composeState_store (s : State) (y : Nat) : (s.composeState y).store = s.store := by
  unfold State.composeState; split <;> rfl
@[simp] theorem State.composeState_writer (s : State) (y : Nat) : (s.composeState y).writer = s.writer := by
  unfold State.composeState; split <;> rfl
@[simp] theorem State.composeState_markers (s : State) (y : Nat) : (s.composeState y).markers = s.markers := by
  unfold State.composeState; split <;> rfl
@[simp] theorem State.composeState_commands (s : State) (y : Nat) : (s.composeState y).commands = s.commands := by
  unfold State.composeState; split <;> rfl
@[simp] theorem State.composeState_up (s : State) (y : Nat) : (s.composeState y).up = s.up := by
  unfold State.composeState; split <;> rfl
@[simp] theorem State.composeState_down (s : State) (y : Nat) : (s.composeState y).down = s.down := by
  unfold State.composeState; split <;> rfl
@[simp] theorem State.composeState_orderings (s : State) (y : Nat) : (s.composeState y).orderings = s.orderings := by
  unfold State.composeState; split <;> rfl
@[simp] theorem State.composeState_pending (s : State) (y : Nat) : (s.composeState y).pending = s.pending := by
  unfold State.composeState; split <;> rfl

@[simp] theorem State.activeLine_address (s : State) (y : Nat) : (s.activeLine y).address = s.address := by
  simp [State.activeLine]
@[simp] theorem State.activeLine_badPackets (s : State) (y : Nat) : (s.activeLine y).badPackets = s.badPackets := by
  simp [State.activeLine]
@[simp] theorem State.activeLine_tracker (s : State) (y : Nat) : (s.activeLine y).tracker = s.tracker := by
  simp [State.activeLine]
@[simp] theorem State.activeLine_panes (s : State) (y : Nat) : (s.activeLine y).panes = s.panes := by
  simp [State.activeLine]
@[simp] theorem State.activeLine_palette (s : State) (y : Nat) : (s.activeLine y).palette = s.palette := by
  simp [State.activeLine]
@[simp] theorem State.activeLine_fade (s : State) (y : Nat) : (s.activeLine y).fade = s.fade := by
  simp [State.activeLine]
@[simp] theorem State.activeLine_commitPending (s : State) (y : Nat) : (s.activeLine y).commitPending = s.commitPending := by
  simp [State.activeLine]
@[simp] theorem State.activeLine_store (s : State) (y : Nat) : (s.activeLine y).store = s.store := by
  simp [State.activeLine]
@[simp] theorem State.activeLine_commands (s : State) (y : Nat) : (s.activeLine y).commands = s.commands := by
  simp [State.activeLine]
@[simp] theorem State.activeLine_down (s : State) (y : Nat) : (s.activeLine y).down = s.down := by
  simp [State.activeLine]
@[simp] theorem State.activeLine_orderings (s : State) (y : Nat) : (s.activeLine y).orderings = s.orderings := by
  simp [State.activeLine]
@[simp] theorem State.activeLine_pending (s : State) (y : Nat) : (s.activeLine y).pending = s.pending := by
  simp [State.activeLine]

@[simp] theorem State.blankLine_address (s : State) : (s.blankLine).address = s.address := rfl
@[simp] theorem State.blankLine_badPackets (s : State) : (s.blankLine).badPackets = s.badPackets := rfl
@[simp] theorem State.blankLine_tracker (s : State) : (s.blankLine).tracker = s.tracker := rfl
@[simp] theorem State.blankLine_panes (s : State) : (s.blankLine).panes = s.panes := rfl
@[simp] theorem State.blankLine_palette (s : State) : (s.blankLine).palette = s.palette := rfl
@[simp] theorem State.blankLine_fade (s : State) : (s.blankLine).fade = s.fade := rfl
@[simp] theorem State.blankLine_commitPending (s : State) : (s.blankLine).commitPending = s.commitPending := rfl
@[simp] theorem State.blankLine_compositor (s : State) : (s.blankLine).compositor = s.compositor := rfl
@[simp] theorem State.blankLine_store (s : State) : (s.blankLine).store = s.store := rfl
@[simp] theorem State.blankLine_commands (s : State) : (s.blankLine).commands = s.commands := rfl
@[simp] theorem State.blankLine_up (s : State) : (s.blankLine).up = s.up := rfl
@[simp] theorem State.blankLine_down (s : State) : (s.blankLine).down = s.down := rfl
@[simp] theorem State.blankLine_orderings (s : State) : (s.blankLine).orderings = s.orderings := rfl
@[simp] theorem State.blankLine_pending (s : State) : (s.blankLine).pending = s.pending := rfl

@[simp] theorem State.frameStart_address (s : State) : (s.frameStart).address = s.address := rfl
@[simp] theorem State.frameStart_badPackets (s : State) : (s.frameStart).badPackets = s.badPackets := rfl
@[simp] theorem State.frameStart_store (s : State) : (s.frameStart).store = s.store := rfl
@[simp] theorem State.frameStart_writer (s : State) : (s.frameStart).writer = s.writer := rfl
@[simp] theorem State.frameStart_commands (s : State) : (s.frameStart).commands = s.commands := rfl
@[simp] theorem State.frameStart_up (s : State) : (s.frameStart).up = s.up := rfl
@[simp] theorem State.frameStart_down (s : State) : (s.frameStart).down = s.down := rfl
@[simp] theorem State.frameStart_orderings (s : State) : (s.frameStart).orderings = s.orderings := rfl
@[simp] theorem State.frameStart_pending (s : State) : (s.frameStart).pending = s.pending := rfl

@[simp] theorem State.beginInternal_address (s : State) (t : Nat) (e : List (List Offer)) : (s.beginInternal t e).address = s.address := by
  simp [State.beginInternal]
@[simp] theorem State.beginInternal_badPackets (s : State) (t : Nat) (e : List (List Offer)) : (s.beginInternal t e).badPackets = s.badPackets := by
  simp [State.beginInternal]
@[simp] theorem State.beginInternal_store (s : State) (t : Nat) (e : List (List Offer)) : (s.beginInternal t e).store = s.store := by
  simp [State.beginInternal]
@[simp] theorem State.beginInternal_writer (s : State) (t : Nat) (e : List (List Offer)) : (s.beginInternal t e).writer = s.writer := by
  simp [State.beginInternal]
@[simp] theorem State.beginInternal_commands (s : State) (t : Nat) (e : List (List Offer)) : (s.beginInternal t e).commands = s.commands := by
  simp [State.beginInternal]
@[simp] theorem State.beginInternal_pending (s : State) (t : Nat) (e : List (List Offer)) : (s.beginInternal t e).pending = s.pending := by
  simp [State.beginInternal]

@[simp] theorem State.loseVideo_address (s : State) (t : Nat) : (s.loseVideo t).address = s.address := by
  unfold State.loseVideo; dsimp only; split <;> simp
@[simp] theorem State.loseVideo_badPackets (s : State) (t : Nat) : (s.loseVideo t).badPackets = s.badPackets := by
  unfold State.loseVideo; dsimp only; split <;> simp
@[simp] theorem State.loseVideo_store (s : State) (t : Nat) : (s.loseVideo t).store = s.store := by
  unfold State.loseVideo; dsimp only; split <;> simp
@[simp] theorem State.loseVideo_writer (s : State) (t : Nat) : (s.loseVideo t).writer = s.writer := by
  unfold State.loseVideo; dsimp only; split <;> simp
@[simp] theorem State.loseVideo_commands (s : State) (t : Nat) : (s.loseVideo t).commands = s.commands := by
  unfold State.loseVideo; dsimp only; split <;> simp
@[simp] theorem State.loseVideo_pending (s : State) (t : Nat) : (s.loseVideo t).pending = s.pending := by
  unfold State.loseVideo; dsimp only; split <;> simp

@[simp] theorem State.compareLossTimer_address (s : State) (t : Nat) : (s.compareLossTimer t).address = s.address := by
  unfold State.compareLossTimer; split <;> simp
@[simp] theorem State.compareLossTimer_badPackets (s : State) (t : Nat) : (s.compareLossTimer t).badPackets = s.badPackets := by
  unfold State.compareLossTimer; split <;> simp
@[simp] theorem State.compareLossTimer_store (s : State) (t : Nat) : (s.compareLossTimer t).store = s.store := by
  unfold State.compareLossTimer; split <;> simp
@[simp] theorem State.compareLossTimer_writer (s : State) (t : Nat) : (s.compareLossTimer t).writer = s.writer := by
  unfold State.compareLossTimer; split <;> simp
@[simp] theorem State.compareLossTimer_commands (s : State) (t : Nat) : (s.compareLossTimer t).commands = s.commands := by
  unfold State.compareLossTimer; split <;> simp
@[simp] theorem State.compareLossTimer_pending (s : State) (t : Nat) : (s.compareLossTimer t).pending = s.pending := by
  unfold State.compareLossTimer; split <;> simp

@[simp] theorem State.takeFrame_address (s : State) (t : Nat) (n w h : Half) (e : List (List Offer)) : (s.takeFrame t n w h e).address = s.address := by
  simp [State.takeFrame]
@[simp] theorem State.takeFrame_badPackets (s : State) (t : Nat) (n w h : Half) (e : List (List Offer)) : (s.takeFrame t n w h e).badPackets = s.badPackets := by
  simp [State.takeFrame]
@[simp] theorem State.takeFrame_store (s : State) (t : Nat) (n w h : Half) (e : List (List Offer)) : (s.takeFrame t n w h e).store = s.store := by
  simp [State.takeFrame]
@[simp] theorem State.takeFrame_writer (s : State) (t : Nat) (n w h : Half) (e : List (List Offer)) : (s.takeFrame t n w h e).writer = s.writer := by
  simp [State.takeFrame]
@[simp] theorem State.takeFrame_commands (s : State) (t : Nat) (n w h : Half) (e : List (List Offer)) : (s.takeFrame t n w h e).commands = s.commands := by
  simp [State.takeFrame]
@[simp] theorem State.takeFrame_pending (s : State) (t : Nat) (n w h : Half) (e : List (List Offer)) : (s.takeFrame t n w h e).pending = s.pending := by
  simp [State.takeFrame]

@[simp] theorem State.endSlot_address (s : State) (g : Generator) (h : Nat) : (s.endSlot g h).address = s.address := by
  unfold State.endSlot; split <;> simp
@[simp] theorem State.endSlot_badPackets (s : State) (g : Generator) (h : Nat) : (s.endSlot g h).badPackets = s.badPackets := by
  unfold State.endSlot; split <;> simp
@[simp] theorem State.endSlot_store (s : State) (g : Generator) (h : Nat) : (s.endSlot g h).store = s.store := by
  unfold State.endSlot; split <;> simp
@[simp] theorem State.endSlot_writer (s : State) (g : Generator) (h : Nat) : (s.endSlot g h).writer = s.writer := by
  unfold State.endSlot; split <;> simp
@[simp] theorem State.endSlot_commands (s : State) (g : Generator) (h : Nat) : (s.endSlot g h).commands = s.commands := by
  unfold State.endSlot; split <;> simp
@[simp] theorem State.endSlot_pending (s : State) (g : Generator) (h : Nat) : (s.endSlot g h).pending = s.pending := by
  unfold State.endSlot; split <;> simp

end Sys2Proof.Machine
end

