-- ==== Sys2Proof/WellFormed.lean ====
section
/-! DEFINITION. Which terms of `Instr` are steps that the lanes can bring: a LINE has at most 2,048
pixels and a COMMAND at most 248 parameter bytes (Table 11-1), and a BAD_PACKET is one that the receiver
drops (R169). Every other term is well formed. -/

namespace Sys2Proof

/-- The well-formedness check. -/
def Instr.wellFormed : Instr → Bool
  | .line pixels => pixels.length ≤ 2048
  | .command _ _ _ _ params => params.length ≤ 248
  | .badPacket bytes => readPacket bytes = none
  | .powerOn _ | .frameOpen .. | .blank | .frameClose _ | .credit _ => true
  | .paneSet | .paneState | .paneScroll | .paletteLoad | .markerSet | .backgroundSet => true
  | .window | .write | .fill | .read => true
  | .commit | .discard | .fade | .config _ | .queryPane | .queryPalette | .identify => true
  | .paceStep | .lossTimerExpiry _ | .internalActiveLine _ | .internalBlankingLine _ => true
  | .upLanePacket _ | .sendBegin | .sendEnd | .creditEmission | .packetEmission | .emissionEnd => true

end Sys2Proof
end

