-- ==== Sys2Proof/Tests/Slice0.lean ====
section
/-! SUPPORT. Tests: expected values come from the manual's tables and worked examples (named at each test) or are
counted by hand from its rules; and the witnesses, each a state and operands that meet the hypotheses of one
statement of Obligations.lean, clause by clause. -/

namespace Sys2Proof.Tests

-- one theorem at a time: the evaluations would else hold many threads' stacks at once
set_option Elab.async false

open Sys2Proof Sys2Proof.Machine

/-! ### Helpers -/

/-- The next state, or the reset state where a step stops. -/
def after (o : Host.Outcome State Fault Refusal) : State :=
  match o with
  | .next s => s
  | .fault _ | .refused _ => State.reset

/-- Does the step answer a next state? -/
def isNext (o : Host.Outcome State Fault Refusal) : Bool :=
  match o with
  | .next _ => true
  | .fault _ | .refused _ => false

/-- Status and payload of the replies in the outbox. -/
def replies (s : State) : List (Status × List Byte) :=
  s.up.outbox.filterMap (fun p => match p with
    | .reply r => some (r.status, r.payload)
    | .notice _ => none)

/-- Kind and payload of the notices in the outbox. -/
def notices (s : State) : List Offer :=
  s.up.outbox.filterMap (fun p => match p with
    | .notice n => some ⟨n.kind, n.payload⟩
    | .reply _ => none)

/-- A part at address 3. -/
def part : State := { State.reset with address := 3 }

/-- A part at address 3 with one command, of tag 7, in its command queue. -/
def queued (r : Request) : State :=
  { part with
    commands := { part.commands with queue := [⟨.addressed 7, r⟩] }
    up := { part.up with reserved := 1 } }

/-- The same with the start-up clear ended, a window and a cursor. -/
def storing (r : Request) (window : Option Window) (cursor : Option Cursor) : State :=
  { queued r with store := ⟨[], 262144, 0⟩, writer := ⟨window, cursor, [], none, 0⟩ }

/-- A store writer at work: the clear has ended, and one job of tag 7 runs. -/
def working (p : Progress) (window : Window) (cursor : Cursor) (allowance : Nat) : State :=
  { part with
    store := ⟨[], 262144, 0⟩
    writer := ⟨some window, some cursor, [], some ⟨7, p⟩, allowance⟩
    up := { part.up with reserved := 1 } }

/-- A tracker state with a frame of a kind, 4 by 2 when it has a size. -/
def tracked (st : TrackerState) (kind : FrameKind) (taken : Nat) : State :=
  let size : Option Nat × Option Nat := if kind = .passThrough then (none, none) else (some 4, some 2)
  { part with
    tracker := { part.tracker with
      state := st
      frame := ⟨4117, kind, size.1, size.2, taken, some .betweenFrames, 0, some 20000, some 3333⟩
      generator := none
      lossStart := some 20000
      prevOpen := some 20000 } }

/-- An internal frame of 4 by 2 with 1 blanking line and a period of 6,000, begun at time 9, in a slot. -/
def internal (slot : Nat) (freeRun : Bool) : State :=
  { part with
    commands := { part.commands with config := ⟨freeRun, 100, 255⟩ }
    tracker := { part.tracker with
      frame := ⟨9, .internal, some 4, some 2, min slot 2, none, 0, none, none⟩
      generator := some ⟨9, 1, 6000, slot⟩ } }

/-- A pixel of three equal channels. -/
def grey (b : Byte) : Pixel := ⟨b, b, b⟩

/-- The window of the worked example of 6.5. -/
def smallWindow : Window := ⟨10000, 16, 4, 3, .rowFirst⟩

/-! ### Well-formedness: each check refuses an ill-formed term (Table 11-1, R169) -/

theorem test_wf_line : (Instr.line (List.replicate 2049 (grey 0))).wellFormed = false := by decide +kernel
theorem test_wf_line_longest : (Instr.line (List.replicate 2048 (grey 0))).wellFormed = true := by decide +kernel
theorem test_wf_command : (Instr.command 0 3 0 0x30 (List.replicate 249 0)).wellFormed = false := by decide +kernel
theorem test_wf_badPacket : (Instr.badPacket (DownPacket.bytes .blank)).wellFormed = false := by decide +kernel
theorem test_wf_badPacket_empty : (Instr.badPacket []).wellFormed = true := by decide +kernel

/-! ### Bytes on the lanes -/

/-- R168's parameters (register 0xFFFF, polynomial 0x1021, no inversion) give 0x29B1 for the nine characters
"123456789", the check value published for this CRC. -/
theorem test_crc : crc [0x31, 0x32, 0x33, 0x34, 0x35, 0x36, 0x37, 0x38, 0x39] = 0x29B1 := by decide +kernel

/-- A FRAME-OPEN of frame 4,117, 1,920 by 1,080, written byte by byte from Tables 11-1 and R167. -/
theorem test_receive_frameOpen :
    receive 5 ([0x10, 0x00, 0x06, 0x10, 0x15, 0x07, 0x80, 0x04, 0x38]
      ++ bytes2 (crc [0x10, 0x00, 0x06, 0x10, 0x15, 0x07, 0x80, 0x04, 0x38]).toNat)
    = .frameOpen 5 4117 1920 1080 := by decide +kernel

/-- A COMMAND to part 3, tag 40, FADE to level 0 in 4 frames (Tables 11-5, 11-6). -/
theorem test_receive_command :
    receive 5 ([0x20, 0x00, 0x07, 0x03, 0x00, 0x28, 0x22, 0x00, 0x00, 0x04]
      ++ bytes2 (crc [0x20, 0x00, 0x07, 0x03, 0x00, 0x28, 0x22, 0x00, 0x00, 0x04]).toNat)
    = .command 5 3 40 0x22 [0, 0, 4] := by decide +kernel

/-- A LINE whose pixel count does not agree with its payload is dropped (R169). -/
theorem test_receive_badLine :
    isNext (exec (.badPacket ([0x11, 0x00, 0x05, 0x00, 0x02, 1, 2, 3]
      ++ bytes2 (crc [0x11, 0x00, 0x05, 0x00, 0x02, 1, 2, 3]).toNat)) part) = true
    ∧ (after (exec (.badPacket ([0x11, 0x00, 0x05, 0x00, 0x02, 1, 2, 3]
      ++ bytes2 (crc [0x11, 0x00, 0x05, 0x00, 0x02, 1, 2, 3]).toNat)) part)).badPackets = 1 := by decide +kernel

/-- The parameter block of PANE-SET by its offsets (Table 11-7). -/
theorem test_read_paneSet :
    readRequest 0x01 [3, 0x00, 0x10, 0x00, 0x20, 0x03, 0x0D, 0x40, 0x04, 0x00, 0x03, 0x20, 0x00, 0x3C, 1, 2, 16, 1, 9]
    = some (.paneSet ⟨3, 16, 32, 200000, 1024, 800, 60, 1, 2, 16, 1, 9⟩) := by decide +kernel

/-- The host's word decoder: no row gives bits. -/
theorem test_decodeTableWord : decodeTableWord 0 0 = none := rfl

/-! ### Panes and scroll -/

/-- The PANE-SET of Table 1-5 with a footprint. -/
def caption (base stride height : Nat) : Request :=
  .paneSet ⟨3, 0, 0, BitVec.ofNat 24 base, BitVec.ofNat 16 stride, 800, BitVec.ofNat 16 height, 1, 1, 16, 0, 0⟩

/-- Table 1-5: the second command is done with scroll-cleared 0; the first fails check 9, the third check 4. The
fourth, base 262,144, fails check 8. -/
theorem test_paneSet_table_1_5 :
    replies (after (exec .paneSet (queued (caption 200000 1024 60)))) = [(.done, [3, 0])]
    ∧ replies (after (exec .paneSet (queued (caption 200000 1024 61)))) = [(.refusedRange, [9, 3])]
    ∧ replies (after (exec .paneSet (queued (caption 200000 700 60)))) = [(.refusedRange, [4, 3])]
    ∧ replies (after (exec .paneSet (queued (caption 262144 1024 1)))) = [(.refusedRange, [8, 3])] := by
  decide +kernel

/-- The shadow record takes the values and stays OFF; the active record is not touched (R10). -/
theorem test_paneSet_record :
    (after (exec .paneSet (queued (caption 200000 1024 60)))).panes.shadow[3].fields.base = 200000
    ∧ (after (exec .paneSet (queued (caption 200000 1024 60)))).panes.shadow[3].fields.on = false
    ∧ (after (exec .paneSet (queued (caption 200000 1024 60)))).panes.active[3].fields.base = 0 := by decide +kernel

/-- PANE-STATE (R13): panes 1 and 4 are selected, 4 is turned ON. An on set outside the select set fails check 2. -/
theorem test_paneState :
    replies (after (exec .paneState (queued (.paneState 0x12 0x10)))) = [(.done, [0x10])]
    ∧ replies (after (exec .paneState (queued (.paneState 0x12 0x11)))) = [(.refusedRange, [2])]
    ∧ replies (after (exec .paneState (queued (.paneState 0 0)))) = [(.refusedRange, [1])] := by decide +kernel

/-- Pane 6 of the worked example of 3.3 with a PANE-SCROLL in the queue. -/
def scrolling (axis : Byte) (lead band trail : Half) (rate present : Byte) (offset : Half) : State :=
  let fields : PaneRec := { PaneRec.default with width := 1240, stride := 1240, height := 32 }
  let s := queued (.paneScroll ⟨6, axis, lead, band, trail, rate, present, offset⟩)
  { s with panes :=
      { shadow := s.panes.shadow.set 6 ⟨fields, none⟩
        active := s.panes.active.set 6 ⟨{ fields with scroll := ⟨.horizontal, 40, 1200, 0, 4⟩ }, 0⟩ } }

/-- Table 3-5, commands a to f. -/
theorem test_paneScroll_table_3_5 :
    replies (after (exec .paneScroll (scrolling 2 40 1200 0 9 0 0))) = [(.refusedRange, [3, 6])]
    ∧ replies (after (exec .paneScroll (scrolling 2 40 1200 8 4 0 0))) = [(.refusedRange, [7, 6])]
    ∧ replies (after (exec .paneScroll (scrolling 1 0 32 0 1 1 32))) = [(.refusedRange, [8, 6])]
    ∧ replies (after (exec .paneScroll (scrolling 1 0 32 0 1 1 31))) = [(.done, [6, 1])]
    ∧ replies (after (exec .paneScroll (scrolling 2 40 1200 0 0xFE 0 0))) = [(.done, [6, 0])]
    ∧ replies (after (exec .paneScroll (scrolling 0 7 7 7 20 0 0))) = [(.done, [6, 1])] := by decide +kernel

/-- A descriptor with rate -2 (Table 3-5, command e) and a requested offset (command d) in the shadow record. -/
theorem test_paneScroll_record :
    (after (exec .paneScroll (scrolling 2 40 1200 0 0xFE 0 0))).panes.shadow[6].fields.scroll
      = ⟨.horizontal, 40, 1200, 0, -2⟩
    ∧ (after (exec .paneScroll (scrolling 1 0 32 0 1 1 31))).panes.shadow[6].requested = some 31 := by decide +kernel

/-- Table 3-2: display rows 0 to 5 at offset 3. -/
theorem test_scrollMap_table_3_2 :
    (List.range 6).map (scrollMap ⟨.vertical, 1, 4, 1, 0⟩ 3) = [0, 4, 1, 2, 3, 5] := by decide +kernel

/-- QUERY-PANE: 61 bytes of reply, the pane number and the differs flag first (Table 11-9). -/
theorem test_queryPane :
    (replies (after (exec .queryPane (queued (.queryPane 7))))).map (fun r => (r.1, r.2.length, r.2.take 2))
      = [(.done, 61, [7, 0])]
    ∧ replies (after (exec .queryPane (queued (.queryPane 8)))) = [(.refusedRange, [1])] := by decide +kernel

/-! ### Palette, background, fade -/

/-- An entry with an opacity. -/
def entry (o : Byte) : PaletteEntry := ⟨1, 2, 3, o⟩

/-- Table 4-2: a, b, c and d. -/
theorem test_paletteLoad_table_4_2 :
    replies (after (exec .paletteLoad (queued (.paletteLoad 240 (List.replicate 20 (entry 16))))))
      = [(.refusedRange, [1, 0])]
    ∧ replies (after (exec .paletteLoad (queued (.paletteLoad 236 (List.replicate 20 (entry 16))))))
      = [(.done, [236, 20])]
    ∧ replies (after (exec .paletteLoad (queued (.paletteLoad 200 ([16, 16, 12, 17, 16, 20, 8, 0].map entry)))))
      = [(.refusedRange, [2, 3])]
    ∧ replies (after (exec .paletteLoad (queued (.paletteLoad 200 ([16, 16, 12, 16, 16, 16, 8, 0].map entry)))))
      = [(.done, [200, 8])] := by decide +kernel

/-- Entries 199, 202 and 208 after Table 4-2's command d: the run starts at 200 and ends at 207. -/
theorem test_paletteLoad_run :
    let s := after (exec .paletteLoad (queued (.paletteLoad 200 ([16, 16, 12, 16, 16, 16, 8, 0].map entry))))
    s.palette.shadow[199].red = 0 ∧ s.palette.shadow[202] = entry 12 ∧ s.palette.shadow[208].red = 0 := by
  decide +kernel

/-- BACKGROUND-SET (R60). -/
theorem test_backgroundSet :
    replies (after (exec .backgroundSet (queued (.backgroundSet ⟨1, 2, 3⟩)))) = [(.done, [1, 2, 3])] := by
  decide +kernel

/-- QUERY-PALETTE (R59): two entries from index 254; a run past 255 fails check 2, selector 2 check 3. -/
theorem test_queryPalette :
    replies (after (exec .queryPalette (queued (.queryPalette 254 2 1)))) = [(.done, [254, 2, 1, 0, 0, 0, 0, 0, 0, 0, 0])]
    ∧ replies (after (exec .queryPalette (queued (.queryPalette 254 3 1)))) = [(.refusedRange, [2])]
    ∧ replies (after (exec .queryPalette (queued (.queryPalette 254 2 2)))) = [(.refusedRange, [3])] := by
  decide +kernel

/-- FADE (R62): start level, target, count, replaced flag; a target of 17 fails check 1, a count of 256 check 2. -/
theorem test_fade :
    replies (after (exec .fade (queued (.fade 0 4)))) = [(.done, [16, 0, 4, 0])]
    ∧ replies (after (exec .fade (queued (.fade 17 4)))) = [(.refusedRange, [1])]
    ∧ replies (after (exec .fade (queued (.fade 0 256)))) = [(.refusedRange, [2])] := by decide +kernel

/-- Table 4-4: rows 2 and 3, k = 1 and 2, and the fifth row. -/
theorem test_fade_table_4_4 :
    (⟨0, true, 0, 16, 3, 0⟩ : FadeEngine).step.level = 5 ∧ (⟨5, true, 0, 16, 3, 1⟩ : FadeEngine).step.level = 10
    ∧ (⟨16, true, 16, 0, 3, 0⟩ : FadeEngine).step.level = 11 ∧ (⟨11, true, 16, 0, 3, 1⟩ : FadeEngine).step.level = 6
    ∧ (⟨3, true, 3, 16, 0, 0⟩ : FadeEngine).step = ⟨16, false, 3, 16, 0, 0⟩ := by decide +kernel

/-! ### Composition -/

/-- Table 2-2, all rows. -/
theorem test_cost_table_2_2 :
    let cost (x width scale : Nat) : Nat :=
      PaneRec.cost { PaneRec.default with screenX := x, width := width, hscale := scale } 1280
    [cost 0 2048 1, cost 0 2048 2, cost 1000 400 1, cost 1000 400 2, cost 1279 10 2, cost 1280 10 1, cost 100 640 1]
      = [1280, 640, 280, 140, 1, 0, 640] := by decide +kernel

/-- Table 2-5, rows 2 and 6: effective opacity and the blended channel. -/
theorem test_blend_table_2_5 :
    effectiveOpacity 12 16 8 = 6 ∧ blendChannel 6 255 0 = 96 ∧ effectiveOpacity 8 8 8 = 2
    ∧ blendChannel 2 100 100 = 100 := by decide +kernel

/-- Table 2-6: two panes on one pixel. -/
theorem test_blend_table_2_6 :
    blend ⟨255, 255, 255, 8⟩ 16 16 ⟨0, 0, 128⟩ = ⟨128, 128, 192⟩
    ∧ blend ⟨255, 0, 0, 16⟩ 8 16 ⟨128, 128, 192⟩ = ⟨192, 64, 96⟩ := by decide +kernel

/-- The panes of Table 2-3. -/
def threePanes : Vector ActivePane 8 :=
  let pane (x y w h hs vs : Nat) : ActivePane :=
    ⟨{ PaneRec.default with on := true, screenX := x, screenY := y, width := w, stride := w, height := h,
                            hscale := hs, vscale := vs }, 0⟩
  ((Vector.replicate 8 ⟨PaneRec.default, 0⟩ |>.set 7 (pane 0 100 1920 200 1 1)).set 4
    (pane 200 200 900 100 2 1)).set 1 (pane 0 250 1500 50 1 2)

/-- Table 2-4: lines 99, 150, 220, 250 and 300. -/
theorem test_admit_table_2_4 :
    [99, 150, 220, 250, 300].map (fun y =>
        let a := admissionOf threePanes y 1920
        (a.admitted, a.skipped))
      = [(0, 0), (0x80, 0), (0x90, 0), (0x90, 0x02), (0x02, 0)] := by decide +kernel

/-! ### Commit, configuration, identity -/

/-- COMMIT's already-pending flag (R68) and DISCARD's withdrawn flag (R77). -/
theorem test_commit_discard :
    replies (after (exec .commit (queued .commit))) = [(.done, [0])]
    ∧ replies (after (exec .discard { queued .discard with commitPending := true })) = [(.done, [1])] := by
  decide +kernel

/-- CONFIG (R144): an interval of 19 fails check 2, of 20 is accepted. -/
theorem test_config :
    replies (after (exec (.config 0) (queued (.config 1 20 0xFF)))) = [(.done, [1, 20, 0xFF])]
    ∧ replies (after (exec (.config 0) (queued (.config 1 19 0xFF)))) = [(.refusedRange, [2])] := by decide +kernel

/-- IDENTIFY (R147, Table 11-9): a store of 262,144 entries, 8 panes, 4 marker slots. -/
theorem test_identify :
    replies (after (exec .identify (queued .identify))) = [(.done, [0x45, 0x18, 0x40, 3, 4, 0, 0, 8, 4, 3])] := by
  decide +kernel

/-! ### Arrival (Table 9-2) -/

/-- Steps 1, 2 and 4 of Table 9-2, each with one command in the queue: a PALETTE-LOAD of 2 1/2 entries, a tag that is
pending, a FADE that is accepted. -/
theorem test_command_arrival :
    let s := queued (.paneState 1 1)
    replies (after (exec (.command 0 3 40 0x04 (List.replicate 11 0)) s)) = [(.refusedFormat, [11])]
    ∧ replies (after (exec (.command 0 3 7 0x24 [0]) s)) = [(.refusedTag, [0])]
    ∧ (after (exec (.command 0 3 9 0x22 [0, 0, 4]) s)).up.reserved = 2
    ∧ (after (exec (.command 0 3 9 0x22 [0, 0, 4]) s)).commands.queue.length = 2 := by decide +kernel

/-- ENUMERATE 4 sets the address to 4 and goes on as ENUMERATE 5; 31 gives CHAIN-FULL and address 0 (R174). -/
theorem test_command_enumerate :
    (after (exec (.command 0 31 0 0x33 [4]) part)).address = 4
    ∧ (after (exec (.command 0 31 0 0x33 [4]) part)).down.waiting = [.command 31 0 0x33 [5]]
    ∧ (after (exec (.command 0 31 0 0x33 [31]) part)).address = 0
    ∧ (after (exec (.command 0 31 0 0x33 [31]) part)).up.outbox.length = 1 := by decide +kernel

/-! ### The store writer -/

/-- The runs of the worked example of 6.5: value 5 count 3, value 9 count 6, value 7 count 5. -/
def exampleRuns : List (Byte × Nat) := [(5, 3), (9, 6), (7, 5)]

/-- Table 6-4: addresses and values, and DONE with written 12, discarded 2, cursor EXHAUSTED. -/
theorem test_write_table_6_4 :
    let t := after (exec .paceStep (working (.write exampleRuns 0) smallWindow (.pos 0 0) 1024))
    t.store.cells = [(10000, 5), (10001, 5), (10002, 5), (10003, 9), (10016, 9), (10017, 9), (10018, 9), (10019, 9),
      (10032, 9), (10033, 7), (10034, 7), (10035, 7)]
    ∧ replies t = [(.done, [0, 12, 0, 2])] ∧ t.writer.cursor = some .exhausted ∧ t.writer.allowance = 1012 := by
  decide +kernel

/-- The example with an allowance of 7: it stops at (3, 1) in the middle of run 2; and in COLUMN-FIRST order row 0
then holds 5, 9, 9, 7. -/
theorem test_write_stops :
    (after (exec .paceStep (working (.write exampleRuns 0) smallWindow (.pos 0 0) 7))).writer.cursor
      = some (.pos 3 1)
    ∧ (let t := after (exec .paceStep
          (working (.write exampleRuns 0) { smallWindow with order := .columnFirst } (.pos 0 0) 1024))
       [10000, 10001, 10002, 10003].map t.store.read = [5, 9, 9, 7]) := by decide +kernel

/-- The job queue of Table 6-3: the WINDOW and the WRITE of the worked example, of tags 8 and 9. -/
def exampleJobs : List Job :=
  [⟨8, .window ⟨10000, 16, 4, 3, 0⟩⟩, ⟨9, .write [⟨5, 3⟩, ⟨9, 6⟩, ⟨7, 5⟩]⟩]

/-- A state with the example's jobs waiting. -/
def withExampleJobs (s : State) : State := { s with writer := { s.writer with jobs := exampleJobs } }

/-- Table 6-3, step 3, with the FILL one entry before its end in the window of 12: three jobs end in one pace step,
with their replies in job order, and 1,024 - 1 - 0 - 12 = 1,011 is left. -/
theorem test_jobs_table_6_3 :
    let t := after (exec .paceStep (withExampleJobs (working (.fill 0 smallWindow 11) smallWindow (.pos 0 0) 1024)))
    replies t = [(.done, [0, 0, 12]), (.done, [0, 0, 12]), (.done, [0, 12, 0, 2])]
    ∧ t.writer = ⟨some smallWindow, some .exhausted, [], none, 1011⟩ := by decide +kernel

/-- WINDOW (R85): 12 positions; order 2 fails check 3. WRITE with no window, and with a run of 257 (R88). -/
theorem test_window_write :
    replies (after (exec .window (storing (.window ⟨10000, 16, 4, 3, 0⟩) none none))) = [(.done, [0, 0, 12])]
    ∧ replies (after (exec .window (storing (.window ⟨10000, 16, 4, 3, 2⟩) none none))) = [(.refusedRange, [3])]
    ∧ replies (after (exec .write (storing (.write [⟨1, 256⟩]) none none))) = [(.refusedNoWindow, [])]
    ∧ replies (after (exec .write (storing (.write [⟨1, 256⟩, ⟨1, 257⟩]) none none))) = [(.refusedRange, [1, 1])] := by
  decide +kernel

/-- FILL sets the cursor to (0, 0) (R94); READ of 241 is refused, and on an exhausted cursor reads nothing (R95). -/
theorem test_fill_read :
    (after (exec .fill (storing (.fill 6) (some smallWindow) (some .exhausted)))).writer.cursor = some (.pos 0 0)
    ∧ replies (after (exec .read (storing (.read 241) (some smallWindow) (some (.pos 0 0))))) = [(.refusedRange, [1])]
    ∧ replies (after (exec .read (storing (.read 5) (some smallWindow) (some .exhausted)))) = [(.done, [])] := by
  decide +kernel

/-! ### Video, markers and the pin -/

/-- Table 7-4, step 3, on a frame of 4 by 2 with 1 line taken: FRAME-FAULTS with short 1 and cut, then VIDEO-LOST with
the next number, and FRAME-CLOSE downstream (free-run output is disabled). -/
theorem test_lossTimerExpiry :
    let t := after (exec (.lossTimerExpiry 120000) (tracked .inFrame .locked 1))
    notices t = [⟨.frameFaults, [0x10, 0x15, 0, 0, 0, 0, 0, 1, 1, 0, 0]⟩, ⟨.videoLost, [0x10, 0x16]⟩]
    ∧ t.down.waiting = [.frameClose 4117] ∧ t.tracker.state = .freeRun
    ∧ (after (exec (.lossTimerExpiry 119999) (tracked .inFrame .locked 1))).tracker.state = .inFrame := by
  decide +kernel

/-- Learning at FRAME-CLOSE (R117): 4 by 2, no blanks, a period of 20,000 - 3,333 = 16,667. -/
theorem test_frameClose_learns :
    (after (exec (.frameClose 0) (tracked .inFrame .locked 2))).tracker.timing = ⟨4, 2, 0, 16667⟩
    ∧ (after (exec (.frameClose 0) (tracked .inFrame .locked 1))).tracker.timing = ⟨1280, 720, 30, 16667⟩ := by
  decide +kernel

/-- FRAME-OPEN (R104): W of 2,049 gives a PASS-THROUGH frame. -/
theorem test_frameOpen :
    (after (exec (.frameOpen 40000 7 2049 1080) (tracked .betweenFrames .locked 2))).tracker.frame.kind = .passThrough
    ∧ (after (exec (.frameOpen 40000 7 1920 1080) (tracked .betweenFrames .locked 2))).tracker.frame.width = some 1920
    := by decide +kernel

/-- Table 8-3, step 1, with the slots on line 1: slots 0 (PULSE) and 1 (BOTH) fire; one pulse, one notice of slot 1. -/
theorem test_line_markers :
    let s := tracked .inFrame .locked 1
    let slots : Vector MarkerSlot 4 := #v[⟨1, .pulse⟩, ⟨1, .both⟩, ⟨0, .pulse⟩, ⟨900, .notice⟩]
    let t := after (exec (.line [grey 1, grey 2, grey 3, grey 4]) { s with markers := ⟨slots, slots, false⟩ })
    t.markers.mark = true ∧ notices t = [⟨.marker, [1, 0x10, 0x15, 0, 1]⟩] := by decide +kernel

/-- A LINE too short is a width fault and leaves with its pixels (R36, R107); MARKER-SET's reply (R124). -/
theorem test_line_fault_markerSet :
    (after (exec (.line [grey 1]) (tracked .inFrame .locked 0))).tracker.faults.width = 1
    ∧ (after (exec (.line [grey 1]) (tracked .inFrame .locked 0))).down.waiting = [.line [grey 1]]
    ∧ replies (after (exec .markerSet (queued (.markerSet 3 2047 3)))) = [(.done, [3, 0x07, 0xFF, 3, 1])]
    ∧ replies (after (exec .markerSet (queued (.markerSet 4 2048 4)))) = [(.refusedRange, [1])] := by decide +kernel

/-- BLANK in FREE-RUN is a stray, in BETWEEN-FRAMES it counts toward B and grants 4,096 (R108, R110, R89). -/
theorem test_blank :
    (after (exec .blank part)).tracker.strays = 1 ∧ (after (exec .blank part)).down.waiting = []
    ∧ (after (exec .blank (tracked .betweenFrames .locked 2))).tracker.blankCount = 1
    ∧ (after (exec .blank (tracked .betweenFrames .locked 2))).writer.allowance = 4096 := by decide +kernel

/-- Internal lines (R118): slot 1 of 3 ends at 9 + 4,000; the last slot ends the frame, and the next takes number 10. -/
theorem test_internal_lines :
    (after (exec (.internalActiveLine 4008) (internal 1 true))).down.waiting = []
    ∧ (after (exec (.internalActiveLine 4009) (internal 1 true))).down.waiting = [.line (List.replicate 4 (grey 0))]
    ∧ (after (exec (.internalBlankingLine 6009) (internal 2 true))).down.waiting
      = [.blank, .frameClose 9, .frameOpen 10 1280 720] := by decide +kernel

/-! ### The lanes and power-on -/

/-- SEND_BEGIN takes the turn's queue, a relay departure owes a credit (R161, R163, R164); SEND_END frees the output. -/
theorem test_send :
    let s : State := { part with up := { part.up with relay := [[1]], sendCredits := 1, outbox :=
      [.notice ⟨3, .clearDone, 0, []⟩] } }
    let t := after (exec .sendBegin s)
    t.up.sending = some (.relayed [1]) ∧ t.up.sendCredits = 0 ∧ t.up.creditsOwed = 9 ∧ t.up.turn = .outbox
    ∧ (after (exec .sendEnd t)).up.sending = none := by decide +kernel

/-- After power-on 8 credits are owed and go first as one CREDIT (R161, R166, R171). -/
theorem test_emission :
    (after (exec .creditEmission State.reset)).down.emitting = some (.credit 8)
    ∧ (after (exec .creditEmission State.reset)).up.creditsOwed = 0
    ∧ (after (exec .emissionEnd (after (exec .creditEmission State.reset)))).down.emitting = none
    ∧ (after (exec .packetEmission { State.reset with down := ⟨[.blank], none⟩ })).down.emitting = none := by
  decide +kernel

/-- CREDIT holds at 255 (R162); the ninth relay packet overflows (R160). -/
theorem test_credit_relay :
    (after (exec (.credit 255) (after (exec (.credit 1) part)))).up.sendCredits = 255
    ∧ (after (exec (.upLanePacket [9]) { part with up := { part.up with relay := List.replicate 8 [1] } })).up.relayOverflow
      = 1 := by decide +kernel

/-- POWER_ON: address 0, generator from the time of the step, clear progress 0 (R81, R121, R176). -/
theorem test_powerOn :
    (after (exec (.powerOn 77) part)).address = 0 ∧ (after (exec (.powerOn 77) part)).store.progress = 0
    ∧ (after (exec (.powerOn 77) part)).tracker.generator = some ⟨77, 30, 16667, 0⟩ := by decide +kernel


/-! ### Witnesses: the queue, power-on and the invariants -/

theorem witness_StepRunsQueueFront : State.reset.pending = [] := rfl

/-- A state with work in several blocks and a step in the queue, for the invariants. -/
def busy : State :=
  { working (.write exampleRuns 0) smallWindow (.pos 3 2) 1024 with
    fade := ⟨16, true, 16, 0, 4, 0⟩
    pending := [.paceStep] }

/-- The part with a FRAME-CLOSE of an open frame in the queue. -/
def closing : State := { tracked .inFrame .locked 2 with pending := [.frameClose 4117] }

theorem witness_ReservationsStayCovered : busy.reservationsHold ∧ isNext (step busy) = true := by decide +kernel
theorem witness_PaneRecordsStayValid : busy.panesValid ∧ isNext (step busy) = true := by decide +kernel
theorem witness_IndexStoreStaysCanonical : busy.store.wf ∧ isNext (step busy) = true := by decide +kernel
theorem witness_PendingWorkStaysBounded : busy.tagsDistinct ∧ busy.capacitiesHold ∧ isNext (step busy) = true := by
  decide +kernel
theorem witness_CountersAndTablesStayInRange :
    busy.tracker.sound ∧ busy.countersHold ∧ busy.tablesInRange ∧ busy.settingsInRange ∧ isNext (step busy) = true := by decide +kernel
theorem witness_FadeLevelStaysBetweenStartAndTarget : busy.fade.sound ∧ isNext (step busy) = true := by decide +kernel
theorem witness_WriterStaysInsideItsWindow : busy.writerSound ∧ isNext (step busy) = true := by decide +kernel
theorem witness_TrackerRecordsStayConsistent : closing.tracker.sound ∧ isNext (step closing) = true := by
  decide +kernel
theorem witness_SoundStatesNeverStop : busy.panesValid ∧ busy.writerSound := by decide +kernel

/-! ### Witnesses: packets and lanes -/

theorem witness_GoodPacketsAreTheirBytes :
    packetFits (.line (List.replicate 2048 (grey 0))) = true ∧ packetFits (.command 0 0 0 (List.replicate 248 0)) = true
    ∧ readPacket [] = none := by decide +kernel

theorem witness_ReceiverDropsAndForwards :
    readPacket [0x12, 0, 0, 0, 0] = none ∧ 2048 < (List.replicate 2049 (grey 0)).length
    ∧ 248 < (List.replicate 249 (0 : Byte)).length
    ∧ ((List.replicate 248 (0 : Byte)).length ≤ 248 ∧ (2 : Byte) ≠ 31
      ∧ ¬ ((2 : Byte).toNat = part.address ∧ 1 ≤ part.address ∧ part.address ≤ 30))
    ∧ ((0 : Byte) ≠ 31 ∧ ¬ ((0 : Byte).toNat = State.reset.address ∧ 1 ≤ State.reset.address ∧ State.reset.address ≤ 30)) := by
  decide +kernel

/-- An up-lane transmitter with given queues, credits, turn and output. -/
def lane (outbox : List UpPacket) (relay : List (List Byte)) (credits : Nat) (turn : Turn) (sending : Option UpSend) :
    UpLane :=
  { State.reset.up with outbox := outbox, relay := relay, sendCredits := credits, turn := turn, sending := sending }

/-- A notice for the outbox. -/
def note : UpPacket := .notice ⟨3, .clearDone, 0, []⟩

theorem witness_UpLaneQueuesServeTheTurn :
    (List.replicate 7 [(1 : Byte)]).length < 8 ∧ 8 ≤ (List.replicate 8 [(1 : Byte)]).length
    ∧ (let u := lane [note] [[1]] 1 .relay none
       u.sending = none ∧ 1 ≤ u.sendCredits ∧ u.relay = [1] :: [] ∧ (u.outbox = [] ∨ u.turn = .relay))
    ∧ (let u := lane [note] [[1]] 255 .outbox none
       u.sending = none ∧ 1 ≤ u.sendCredits ∧ u.outbox = note :: [] ∧ (u.relay = [] ∨ u.turn = .outbox))
    ∧ (lane [note] [] 1 .relay (some (.own note))).sending ≠ none ∧ (lane [note] [] 0 .relay none).sendCredits = 0
    ∧ ((lane [] [] 1 .relay none).relay = [] ∧ (lane [] [] 1 .relay none).outbox = []) := by decide +kernel

theorem witness_EmissionPutsCreditFirst :
    (State.reset.down.emitting = none ∧ 0 < State.reset.up.creditsOwed ∧ State.reset.up.creditsOwed ≤ 255)
    ∧ (let s : State := { State.reset with up := { State.reset.up with creditsOwed := 0 }, down := ⟨[.blank], none⟩ }
       s.down.emitting = none ∧ s.up.creditsOwed = 0 ∧ s.down.waiting = .blank :: [])
    ∧ (⟨[], some .blank⟩ : DownLane).emitting ≠ none := by decide +kernel

/-- R159's case, room for one more packet: of two offers that come together one is admitted with the lost count
accumulated before it, and the other is dropped and counted. -/
theorem test_offers_one_slot :
    let s : State := { part with up := { part.up with outbox := List.replicate 15 note, reserved := 16, lost := 4 } }
    let u := s.afterNotices [⟨.clearDone, []⟩, ⟨.committed, [0, 1]⟩]
    u.outbox = s.up.outbox ++ [.notice ⟨3, .clearDone, 4, []⟩] ∧ u.lost = 1 ∧ u.upDrops = 1 := by decide +kernel

/-! ### Witnesses: arrival -/

/-- The part is addressed: the hypotheses that addressed commands share, at both ends of the address range. -/
theorem witness_addressed :
    ((3 : Byte).toNat = part.address ∧ 1 ≤ part.address ∧ part.address ≤ 30)
    ∧ ((30 : Byte).toNat = ({ part with address := 30 } : State).address ∧ (30 : Nat) ≤ 30) := by decide +kernel

theorem witness_FormatFailuresDoNothingElse :
    (readRequest 0x04 (List.replicate 11 0) = none ∧ (List.replicate 11 (0 : Byte)).length ≤ 248
      ∧ (3 : Byte).toNat = part.address ∧ 1 ≤ part.address ∧ part.address ≤ 30)
    ∧ (readRequest 0x21 [] = some .discard ∧ (0x21 : Byte) ≠ 0x20 ∧ (0x21 : Byte) ≠ 0x22 ∧ (0x21 : Byte) ≠ 0x32
      ∧ (0x21 : Byte) ≠ 0x33) := by decide +kernel

/-- The part with a cached reply of tag 7 for QUERY-PANE. -/
def cached : State :=
  { part with commands := { part.commands with cache := [⟨7, 0x24, .refusedRange, none, [1]⟩] } }

theorem witness_RetransmissionsAreNotExecuted :
    (readRequest 0x24 [0] = some (.queryPane 0) ∧ requestClass (.queryPane 0) ≠ .urgent ∧ (7 : Half) ≠ 0
      ∧ (3 : Byte).toNat = (queued .commit).address ∧ ∃ e ∈ (queued .commit).commands.queue, e.origin = .addressed 7)
    ∧ ((3 : Byte).toNat = busy.address ∧ (∀ e ∈ busy.commands.queue, e.origin ≠ .addressed 7)
      ∧ ∃ run, busy.writer.running = some run ∧ run.tag = 7)
    ∧ ((3 : Byte).toNat = cached.address ∧ cacheTagsDistinct cached.commands.cache
      ∧ ∃ c ∈ cached.commands.cache, c.tag = 7 ∧ c.code = 0x24) := by
  refine ⟨by decide +kernel, ⟨by decide +kernel, by decide +kernel, _, rfl, rfl⟩, by decide +kernel⟩

theorem witness_RetransmissionsAreNotExecuted_notPending : ¬ cached.hasPending 7 := by
  rintro (⟨e, he, -⟩ | ⟨j, hj, -⟩ | ⟨r, hr, -⟩)
  · exact List.not_mem_nil he
  · exact List.not_mem_nil hj
  · exact absurd (show (none : Option Running) = some r from hr) (by simp)

theorem witness_AcceptanceNeedsQueueAndReservation :
    let full : State := { part with commands := { part.commands with queue := List.replicate 16 ⟨.broadcast, .commit⟩ } }
    let tight : State := { part with up := { part.up with outbox := List.replicate 31 note } }
    let none : State := { part with up := { part.up with outbox := List.replicate 32 note } }
    16 ≤ full.commands.queue.length
    ∧ (tight.commands.queue.length < 16 ∧ tight.up.outbox.length + tight.up.reserved < 32)
    ∧ (none.commands.queue.length < 16 ∧ 32 ≤ none.up.outbox.length + none.up.reserved)
    ∧ (∀ c ∈ tight.commands.cache, ¬ (c.tag = 7 ∧ c.code = 0x24))
    ∧ readRequest 0x24 [0] = some (.queryPane 0) ∧ (3 : Byte).toNat = full.address ∧ (3 : Byte).toNat = tight.address
    ∧ (3 : Byte).toNat = none.address := by decide +kernel

theorem witness_BroadcastsActAndPassOn :
    readRequest 0x20 [] = some .commit ∧ readRequest 0x22 [0, 0, 4] = some (.fade 0 4)
    ∧ part.commands.queue.length < 16
    ∧ (1 ≤ (30 : Byte).toNat ∧ (30 : Byte).toNat ≤ 30) ∧ 31 < (32 : Byte).toNat := by decide +kernel

theorem witness_StatusReportsAndClears : (255 : Byte) ≠ 0 ∧ (255 : Byte) ≠ 1 := by decide

/-- The loss timer has not run 100 ms: the part in a locked state, opened at 20,000 µs, at 119,999 µs. -/
theorem witness_ResetPartResetsTheBlocks :
    (3 : Byte).toNat = (tracked .inFrame .locked 1).address ∧ ∀ t0, (tracked .inFrame .locked 1).tracker.lossStart = some t0 → 119999 < t0 + 100000 := by
  refine ⟨rfl, fun t0 h => ?_⟩
  have h' : (20000 : Nat) = t0 := Option.some.inj h
  omega

theorem witness_ReplyCacheKeepsNewestOfEachTag :
    let cache : List CacheEntry := (List.range 8).map (fun i => ⟨BitVec.ofNat 16 (i + 1), 0x26, .done, none, []⟩)
    cache.length = 8 ∧ cacheTagsDistinct cache ∧ (∃ c ∈ cache, c.tag = 8) ∧ (∀ c ∈ cache, c.tag ≠ 9)
    ∧ cached.commands.cache.length < 8 := by decide +kernel

/-! ### Witnesses: the queue head -/

/-- A held staging command and a held store command; a head that is another command; a pace step, an expiry and internal
lines that are not due; good bytes. -/
theorem witness_HeldOrUndueStepsChangeNothing :
    (executes .paneState (.paneState 1 1) = true ∧ requestClass (.paneState 1 1) = .staging
      ∧ ({ queued (.paneState 1 1) with commitPending := true } : State).commitPending = true)
    ∧ (executes .fill (.fill 1) = true ∧ requestClass (.fill 1) = .store
      ∧ 4 ≤ (List.replicate 4 (⟨1, .fill 1⟩ : Job)).length)
    ∧ (runsAtHead .commit = true ∧ executes .commit .discard = false)
    ∧ (262144 ≤ (storing .commit none none).store.progress ∧ (storing .commit none none).writer.running = none)
    ∧ State.reset.writer.allowance = 0
    ∧ (4008 * ((internal 1 true).tracker.frame.lines.getD 0 + 1)
        < 9 * ((internal 1 true).tracker.frame.lines.getD 0 + 1) + (1 + 1) * 6000)
    ∧ ((internal 2 true).tracker.frame.lines.getD 0 ≤ 2 ∧ 1 < (internal 1 true).tracker.frame.lines.getD 0)
    ∧ readPacket (DownPacket.bytes .blank) = some .blank := by decide +kernel

/-- The hypotheses of the statements about a staging command: it is the head, and no commit is pending. -/
theorem witness_stagingHead :
    ([caption 200000 1024 60, .paneState 0x12 0x10, .paneScroll ⟨6, 0, 7, 7, 7, 20, 0, 0⟩,
      .paletteLoad 236 [entry 16], .markerSet 3 2047 3, .backgroundSet ⟨1, 2, 3⟩].all (fun r =>
        decide ((queued r).commands.queue = ⟨.addressed 7, r⟩ :: [] ∧ (queued r).commitPending = false))) = true := by
  decide +kernel

/-- Those of the statements about the other queued commands: the command is the head. -/
theorem witness_otherHead :
    ([.commit, .discard, .fade 16 255, .config 1 250 0, .queryPane 7, .queryPalette 208 48 1, .identify].all (fun r =>
        decide ((queued r).commands.queue = ⟨.addressed 7, r⟩ :: []))) = true := by decide +kernel

/-- The same for a broadcast head. -/
theorem witness_broadcastHead :
    let s : State := { part with commands := { part.commands with queue := [⟨.broadcast, .fade 16 255⟩] } }
    s.commands.queue = ⟨.broadcast, .fade 16 255⟩ :: [] := rfl

/-- An entry of the palette list at the boundary of its clauses: a run that ends at 255, and one that passes it. -/
theorem witness_PaletteLoadWritesTheRun :
    (236 : Byte).toNat + (List.replicate 20 (entry 16)).length - 1 ≤ 255
    ∧ 255 < (237 : Byte).toNat + (List.replicate 20 (entry 16)).length - 1
    ∧ (List.replicate 20 (entry 16)).findIdx? (fun x => decide (16 < x.opacity.toNat)) = none
    ∧ [entry 16, entry 17].findIdx? (fun x => decide (16 < x.opacity.toNat)) = some 1 := by decide +kernel

/-- CONFIG with an interval the running timer has not reached. -/
theorem witness_ConfigTakesAllThreeItems :
    ∀ t0, ({ queued (.config 0 250 0) with tracker := (tracked .inFrame .locked 1).tracker } : State).tracker.lossStart
      = some t0 → 269999 < t0 + (250 : Byte).toNat * 1000 := by
  intro t0 h
  have h' : (20000 : Nat) = t0 := Option.some.inj h
  have : (250 : Byte).toNat = 250 := rfl
  omega

/-! ### Witnesses: the store writer -/

theorem witness_StoreCommandsBecomeJobs :
    executes .fill (.fill 1) = true ∧ storeWork (.fill 1) = some (.fill 1)
    ∧ (queued (.fill 1)).commands.queue = ⟨.addressed 7, .fill 1⟩ :: []
    ∧ (List.replicate 3 (⟨1, .fill 1⟩ : Job)).length < 4 ∧ (queued (.fill 1)).writer.jobs.length < 4
    ∧ (queued (.fill 1)).store.progress < 262144 ∧ busy.writer.running ≠ none := by decide +kernel

theorem witness_IdleWriterTakesJobs :
    let s := storing (.write [⟨1, 1⟩, ⟨2, 256⟩]) (some smallWindow) (some (.pos 3 2))
    262144 ≤ s.store.progress ∧ s.writer.running = none ∧ s.writer.jobs = []
    ∧ s.commands.queue = ⟨.addressed 7, .write [⟨1, 1⟩, ⟨2, 256⟩]⟩ :: []
    ∧ (∀ r ∈ ([⟨1, 1⟩, ⟨2, 256⟩] : List Run), 1 ≤ r.count.toNat ∧ r.count.toNat ≤ 256)
    ∧ ([⟨1, 1⟩, ⟨2, 257⟩] : List Run).findIdx? (fun r => decide (r.count = 0 ∨ 256 < r.count.toNat)) = some 1
    ∧ s.writer.window ≠ none ∧ s.writer.cursor ≠ some .exhausted
    ∧ (storing .commit none none).writer.window = none
    ∧ (storing .commit (some smallWindow) (some .exhausted)).writer.cursor = some .exhausted
    ∧ (1 ≤ (240 : Byte).toNat ∧ (240 : Byte).toNat ≤ 240) ∧ 240 < (241 : Byte).toNat := by decide +kernel

theorem witness_CursorVisitsEveryPositionOnce :
    1 ≤ smallWindow.width ∧ 1 ≤ smallWindow.height ∧ 3 < smallWindow.width ∧ 2 < smallWindow.height := by decide

/-- The start-up clear one entry before its end, with an allowance. -/
def clearingAt (progress allowance : Nat) : State :=
  { part with store := ⟨[], progress, 0⟩, writer := ⟨none, none, [], none, allowance⟩ }

theorem witness_PaceStepClearsInOrder :
    (let s := clearingAt 0 1024
     s.store.progress < 262144 ∧ s.writer.running = none ∧ 0 < s.writer.allowance ∧ s.writer.inStore = true
      ∧ s.store.progress + s.writer.allowance < 262144)
    ∧ (let s := withExampleJobs (clearingAt 262143 1)
     s.store.progress < 262144 ∧ s.writer.running = none ∧ 0 < s.writer.allowance ∧ s.writer.inStore = true
      ∧ 262144 ≤ s.store.progress + s.writer.allowance ∧ s.writer.jobs ≠ [])
    ∧ (clearingAt 262143 1).writer.jobs = [] := by decide +kernel

/-- A FILL with its last entry left and jobs behind it, and one that the allowance stops. -/
theorem witness_PaceStepFillsTheFootprint :
    (let s := withExampleJobs (working (.fill 6 smallWindow 11) smallWindow (.pos 0 0) 1)
     262144 ≤ s.store.progress ∧ s.writer.running = some ⟨7, .fill 6 smallWindow 11⟩ ∧ s.writer.inStore = true
      ∧ 0 < s.writer.allowance ∧ s.store.wf ∧ s.writer.jobs ≠ [])
    ∧ (let s := working (.fill 6 smallWindow 0) smallWindow (.pos 0 0) 11
     s.writer.inStore = true ∧ 0 + s.writer.allowance < smallWindow.width * smallWindow.height) := by decide +kernel

theorem witness_PaceStepWritesRunsAtTheCursor :
    (let s := working (.write exampleRuns 0) smallWindow (.pos 0 0) 7
     262144 ≤ s.store.progress ∧ s.writer.running = some ⟨7, .write exampleRuns 0⟩ ∧ (∀ r ∈ exampleRuns, 1 ≤ r.2)
      ∧ exampleRuns ≠ [] ∧ s.writer.window = some smallWindow ∧ smallWindow.valid = true
      ∧ s.writer.cursor = some (smallWindow.cursorAt 0) ∧ 0 < s.writer.allowance ∧ s.store.wf
      ∧ 7 < (runValues exampleRuns).length ∧ 0 + 7 < smallWindow.width * smallWindow.height)
    ∧ (let s := withExampleJobs (working (.write [(5, 1)] 0) smallWindow (.pos 3 2) 1024)
     s.writer.cursor = some (smallWindow.cursorAt 11) ∧ s.writer.jobs ≠ [] ∧ s.store.wf) := by decide +kernel

theorem witness_PaceStepReadsAtTheCursor :
    (let s := working (.read 12 []) smallWindow (.pos 0 0) 11
     262144 ≤ s.store.progress ∧ s.writer.running = some ⟨7, .read 12 []⟩ ∧ 1 ≤ 12
      ∧ s.writer.window = some smallWindow ∧ smallWindow.valid = true ∧ s.writer.cursor = some (smallWindow.cursorAt 0)
      ∧ 0 < s.writer.allowance ∧ 11 < 12 ∧ 0 + 11 < smallWindow.width * smallWindow.height)
    ∧ (let s := withExampleJobs (working (.read 240 []) smallWindow (.pos 3 2) 1024)
     s.writer.cursor = some (smallWindow.cursorAt 11) ∧ s.writer.jobs ≠ []) := by decide +kernel

/-- The pace step's two kinds of work; then, for the jobs that start, a check that fails and none that fails, an
absent window, and an exhausted cursor. -/
theorem witness_PaceStepSpendsTheAllowance :
    (busy.writer.running ≠ none ∧ 0 < busy.writer.allowance ∧ busy.writer.inStore = true)
    ∧ ((clearingAt 262143 4096).store.progress < 262144 ∧ 0 < (clearingAt 262143 4096).writer.allowance
      ∧ (clearingAt 262143 4096).writer.inStore = true)
    ∧ (clearingAt 262143 1).writer.jobs = []
    ∧ (withExampleJobs part).writer.jobs = ⟨8, .window ⟨10000, 16, 4, 3, 0⟩⟩ :: exampleJobs.tail
    ∧ (withExampleJobs part).writer.window = none
    ∧ (let list : List Run := [⟨5, 3⟩, ⟨9, 256⟩]
       list ≠ [] ∧ list.findIdx? (fun r => decide (r.count = 0 ∨ 256 < r.count.toNat)) = none)
    ∧ ([⟨5, 3⟩, ⟨9, 257⟩] : List Run).findIdx? (fun r => decide (r.count = 0 ∨ 256 < r.count.toNat)) = some 1
    ∧ ¬ ((240 : Byte) = 0 ∨ 240 < (240 : Byte).toNat) ∧ 240 < (241 : Byte).toNat
    ∧ (storing .commit (some smallWindow) (some .exhausted)).writer.cursor = some .exhausted := by decide +kernel

/-! ### Witnesses: video -/

theorem witness_FrameOpenStates :
    (tracked .betweenFrames .locked 2).tracker.state = .betweenFrames ∧ (tracked .inFrame .locked 1).tracker.state = .inFrame
    ∧ State.reset.tracker.state = .freeRun := by decide +kernel

/-- The last line below H, with 0 pixels and with 2,048. -/
theorem witness_LinesBelowHAreComposed :
    let s := tracked .inFrame .locked 1
    ([] : List Pixel).length ≤ 2048 ∧ (List.replicate 2048 (grey 0)).length ≤ 2048 ∧ s.tracker.state = .inFrame
    ∧ s.tracker.frame.kind = .locked ∧ s.tracker.frame.width = some 4 ∧ s.tracker.frame.lines = some 2
    ∧ s.tracker.frame.linesTaken < 2 ∧ s.panes.activeValid = true := by decide +kernel

theorem witness_OtherVideoIsPassedOrDiscarded :
    (tracked .inFrame .passThrough 0).tracker.frame.kind = .passThrough
    ∧ (let s := tracked .inFrame .locked 2
       s.tracker.state = .inFrame ∧ s.tracker.frame.kind = .locked ∧ s.tracker.frame.width = some 4
        ∧ s.tracker.frame.lines = some 2 ∧ 2 ≤ s.tracker.frame.linesTaken) := by decide +kernel

theorem witness_LossOfVideoBeginsFreeRun :
    let s := tracked .betweenFrames .locked 2
    s.tracker.lossStart = some 20000 ∧ 20000 + s.commands.config.lossInterval * 1000 ≤ 120000
    ∧ s.tracker.state = .betweenFrames ∧ (tracked .inFrame .locked 2).tracker.state = .inFrame := by decide +kernel

/-- The last active slot with blanking behind it; and the only slot of a frame of 4 by 1 with B = 0. -/
theorem witness_InternalActiveLineIsComposed :
    (let s := internal 1 true
     s.tracker.generator = some ⟨9, 1, 6000, 1⟩ ∧ s.tracker.frame.kind = .internal ∧ s.tracker.frame.width = some 4
      ∧ s.tracker.frame.lines = some 2 ∧ 1 < 2 ∧ 9 * (2 + 1) + (1 + 1) * 6000 ≤ 4009 * (2 + 1)
      ∧ s.panes.activeValid = true ∧ 1 + 1 < 2 + 1)
    ∧ (let s : State := { part with tracker := { part.tracker with
         frame := ⟨9, .internal, some 4, some 1, 0, none, 0, none, none⟩, generator := some ⟨9, 0, 6000, 0⟩ } }
     s.tracker.generator = some ⟨9, 0, 6000, 0⟩ ∧ s.tracker.frame.lines = some 1 ∧ s.panes.activeValid = true
      ∧ 9 * (1 + 0) + (0 + 1) * 6000 ≤ 6009 * (1 + 0) ∧ 1 + 0 ≤ 0 + 1) := by decide +kernel

/-- The last blanking slot, and one before it in a frame with B = 2. -/
theorem witness_InternalBlankingLineIsTaken :
    (let s := internal 2 true
     s.tracker.generator = some ⟨9, 1, 6000, 2⟩ ∧ s.tracker.frame.lines = some 2 ∧ 2 ≤ 2 ∧ 2 < 2 + 1
      ∧ 9 * (2 + 1) + (2 + 1) * 6000 ≤ 6009 * (2 + 1) ∧ 2 + 1 = 2 + 1)
    ∧ (let s : State := { internal 2 true with tracker := { (internal 2 true).tracker with
         generator := some ⟨9, 2, 6000, 2⟩ } }
     s.tracker.generator = some ⟨9, 2, 6000, 2⟩ ∧ s.tracker.frame.lines = some 2 ∧ 2 < 2 + 2
      ∧ 9 * (2 + 2) + (2 + 1) * 6000 ≤ 4509 * (2 + 2) ∧ 2 + 1 < 2 + 2) := by decide +kernel

/-! ### Witnesses: composition -/

theorem witness_ScrollMapRotatesTheBand :
    let d : Scroll := ⟨.vertical, 1, 4, 1, 0⟩
    1 ≤ d.band ∧ 3 < d.band ∧ 0 < d.lead ∧ (d.lead ≤ 4 ∧ 4 < d.lead + d.band) ∧ d.lead + d.band ≤ 5 ∧ 1 ≤ 3 := by decide

theorem witness_CostCountsVisibleColumns :
    let p : PaneRec := { PaneRec.default with screenX := 1279, width := 10, hscale := 2 }
    (p.hscale = 1 ∨ p.hscale = 2) ∧ p.screenX < 1280 ∧ 1279 ≤ p.screenX := by decide

theorem witness_AdmissionFillsTheBudgetFromTheTop :
    (∀ i : Fin 8, threePanes[i].fields.width ≤ 2048)
    ∧ threePanes[7].fields.candidate 250 = true ∧ 0 < threePanes[7].fields.cost 1920 := by decide +kernel

/-- On line 220 only panes 7 and 4 of Table 2-3 are candidates. -/
theorem witness_AdmissionFillsTheBudgetFromTheTop_two :
    let counts (i : Fin 8) : Prop := threePanes[i].fields.candidate 220 = true ∧ 0 < threePanes[i].fields.cost 1920
    ∀ i j k : Fin 8, counts i → counts j → counts k → i = j ∨ j = k ∨ i = k := by decide +kernel

theorem witness_LookupStaysInTheFootprint :
    let p := threePanes[1]
    p.valid = true ∧ p.fields.candidate 349 = true ∧ (p.fields.screenX ≤ 1499
      ∧ 1499 < p.fields.screenX + p.fields.width * p.fields.hscale)
    ∧ p.fields.screenX + p.fields.width * p.fields.hscale ≤ 1500 := by decide +kernel

theorem witness_BlendingIsChannelByChannel : (entry 16).opacity.toNat ≤ 16 ∧ (16 : Nat) ≤ 16 := by decide

end Sys2Proof.Tests
end

/-! PROOFS. Line composition: the cost of a candidate (R24), the effective opacity (R33) and the
blending of one entry over one pixel (R34). -/

section
namespace Sys2Proof.Machine

/-! ### The cost of a candidate (R24) -/

theorem length_filter_range_lt (n c : Nat) :
    ((List.range n).filter (fun d => decide (d < c))).length = min n c := by
  rw [← List.Ico.zero_bot, List.Ico.filter_lt, List.Ico.length, Nat.sub_zero]

/-- Column `d` starts inside the frame exactly when it is one of the first ceil((w - x) / h) columns,
which are none when x is at w or beyond. -/
theorem columnStart_lt_iff {h : Nat} (hpos : 0 < h) (x w d : Nat) :
    x + d * h < w ↔ d < (w - x + h - 1) / h := by
  have hceil : d < (w - x + h - 1) / h ↔ (d + 1) * h ≤ w - x + h - 1 := Nat.le_div_iff_mul_le hpos
  have hsucc : (d + 1) * h = d * h + h := Nat.succ_mul d h
  omega

theorem PaneRec.cost_of_le {p : PaneRec} {w : Nat} (hright : w ≤ p.screenX) : p.cost w = 0 :=
  if_pos hright

theorem PaneRec.cost_of_lt {p : PaneRec} {w : Nat} (hin : p.screenX < w) :
    p.cost w = min p.width ((w - p.screenX + p.hscale - 1) / p.hscale) :=
  if_neg (Nat.not_le.mpr hin)

/-- R24's two cases in one formula: right of the frame the ceiling itself is 0. -/
theorem PaneRec.cost_eq_min {p : PaneRec} (hpos : 0 < p.hscale) (w : Nat) :
    p.cost w = min p.width ((w - p.screenX + p.hscale - 1) / p.hscale) := by
  rcases Nat.lt_or_ge p.screenX w with hin | hright
  · exact PaneRec.cost_of_lt hin
  · have hzero : (w - p.screenX + p.hscale - 1) / p.hscale = 0 := Nat.div_eq_of_lt (by omega)
    rw [PaneRec.cost_of_le hright, hzero, Nat.min_zero]

theorem PaneRec.cost_eq_length_visible {p : PaneRec} (hpos : 0 < p.hscale) (w : Nat) :
    p.cost w = ((List.range p.width).filter (fun d => decide (p.screenX + d * p.hscale < w))).length := by
  simp only [columnStart_lt_iff hpos, length_filter_range_lt, PaneRec.cost_eq_min hpos]

/-- Settles O57: the visible columns are an initial segment of the pane's columns, whose length is
R24's ceiling, so counting them gives the closed form. -/
theorem costCountsVisibleColumns : Obligations.CostCountsVisibleColumns := by
  intro p w hscale
  have hpos : 0 < p.hscale := by omega
  refine ⟨PaneRec.cost_eq_length_visible hpos w, PaneRec.cost_of_le, fun hin => ?_⟩
  rw [PaneRec.cost_of_lt hin, Nat.add_sub_assoc hpos]

/-! ### Effective opacity and blending (R33, R34) -/

theorem effectiveOpacity_le {entry pane fade : Nat} (he : entry ≤ 16) (hp : pane ≤ 16) (hf : fade ≤ 16) :
    effectiveOpacity entry pane fade ≤ 16 := by
  have hproduct : entry * pane * fade ≤ 16 * 16 * 16 := Nat.mul_le_mul (Nat.mul_le_mul he hp) hf
  unfold effectiveOpacity
  omega

@[simp] theorem blendChannel_sixteen (overlay under : Nat) : blendChannel 16 overlay under = overlay := by
  unfold blendChannel
  omega

@[simp] theorem blendChannel_zero (overlay under : Nat) : blendChannel 0 overlay under = under := by
  unfold blendChannel
  omega

/-- The two weights sum to 16, so blending a value over itself keeps it. -/
theorem blendChannel_self {e : Nat} (he : e ≤ 16) (v : Nat) : blendChannel e v v = v := by
  have hweights : e * v + (16 - e) * v = 16 * v := by rw [← Nat.add_mul, Nat.add_sub_cancel' he]
  unfold blendChannel
  omega

theorem blendChannel_mono (e : Nat) {a a' b b' : Nat} (ha : a ≤ a') (hb : b ≤ b') :
    blendChannel e a b ≤ blendChannel e a' b' := by
  unfold blendChannel
  gcongr

/-- A blend of two bytes is at most 255 blended over 255, which is 255. -/
theorem blendChannel_le_byte {e : Nat} (he : e ≤ 16) (overlay under : Byte) :
    blendChannel e overlay.toNat under.toNat ≤ 255 :=
  calc blendChannel e overlay.toNat under.toNat
      ≤ blendChannel e 255 255 :=
        blendChannel_mono e (Nat.le_of_lt_succ overlay.isLt) (Nat.le_of_lt_succ under.isLt)
    _ = 255 := blendChannel_self he 255

theorem byte1_toNat_of_le {n : Nat} (hn : n ≤ 255) : (byte1 n).toNat = n := by
  rw [byte1, BitVec.toNat_ofNat, Nat.mod_eq_of_lt (Nat.lt_succ_of_le hn)]

/-- A blended channel is stored in its byte without loss. -/
theorem byte1_blendChannel_toNat {e : Nat} (he : e ≤ 16) (overlay under : Byte) :
    (byte1 (blendChannel e overlay.toNat under.toNat)).toNat = blendChannel e overlay.toNat under.toNat :=
  byte1_toNat_of_le (blendChannel_le_byte he overlay under)

/-- Settles O60: the opacity stays within 16, so each channel is a rounded mean with weights e and
16 - e of two bytes, and fits its byte. -/
theorem blendingIsChannelByChannel : Obligations.BlendingIsChannelByChannel := by
  intro entry pane fade under hentry hpane hfade e channel out
  have he : e ≤ 16 := effectiveOpacity_le hentry hpane hfade
  have hchannel (a b : Byte) : channel a b = blendChannel e a.toNat b.toNat := rfl
  refine ⟨he, byte1_blendChannel_toNat he _ _, byte1_blendChannel_toNat he _ _,
    byte1_blendChannel_toNat he _ _, fun a b => ⟨blendChannel_le_byte he a b, ?_, ?_, ?_⟩⟩
  · intro hopaque
    rw [hchannel, hopaque, blendChannel_sixteen]
  · intro hclear
    rw [hchannel, hclear, blendChannel_zero]
  · intro hsame
    rw [hchannel, ← hsame, blendChannel_self he]

end Sys2Proof.Machine
end

/-! PROOFS. The scroll map (R43): what it does on the lead, the band and the trail, that it keeps the
band and what lies outside it apart, and that it is one to one. -/

section
namespace Sys2Proof.Machine

/-! ### The scroll map on each part of the pane (R43) -/

/-- The display or memory index lies in the band of the descriptor. -/
def Scroll.InBand (d : Scroll) (i : Nat) : Prop := d.lead ≤ i ∧ i < d.lead + d.band

theorem scrollMap_of_lt_lead {d : Scroll} (o : Nat) {i : Nat} (hlead : i < d.lead) :
    scrollMap d o i = i :=
  if_pos hlead

theorem scrollMap_of_inBand {d : Scroll} (o : Nat) {i : Nat} (hband : d.InBand i) :
    scrollMap d o i = d.lead + (i - d.lead + o) % d.band := by
  obtain ⟨hlow, hhigh⟩ := hband
  rw [scrollMap, if_neg (Nat.not_lt.mpr hlow), if_pos hhigh]

theorem scrollMap_of_trail {d : Scroll} (o : Nat) {i : Nat} (htrail : d.lead + d.band ≤ i) :
    scrollMap d o i = i := by
  rw [scrollMap, if_neg (by omega), if_neg (Nat.not_lt.mpr htrail)]

theorem scrollMap_of_not_inBand {d : Scroll} (o : Nat) {i : Nat} (hout : ¬ d.InBand i) :
    scrollMap d o i = i := by
  rcases Nat.lt_or_ge i d.lead with hlead | hlow
  · exact scrollMap_of_lt_lead o hlead
  · exact scrollMap_of_trail o (Nat.le_of_not_lt fun hhigh => hout ⟨hlow, hhigh⟩)

/-! ### Rotation without and with a turn past the band's end -/

theorem scrollMap_of_inBand_of_lt {d : Scroll} {o i : Nat} (hband : d.InBand i)
    (hend : i - d.lead + o < d.band) : scrollMap d o i = i + o := by
  have hlow : d.lead ≤ i := hband.1
  rw [scrollMap_of_inBand o hband, Nat.mod_eq_of_lt hend]
  omega

/-- The band's last index turns past its end, so the offset brings it to one before the first
index's place. -/
theorem scrollMap_band_last {d : Scroll} {o : Nat} (hoffset : o < d.band) (hpos : 1 ≤ o) :
    scrollMap d o (d.lead + d.band - 1) = d.lead + o - 1 := by
  have hband : d.InBand (d.lead + d.band - 1) := ⟨by omega, by omega⟩
  have hturn : d.lead + d.band - 1 - d.lead + o = (o - 1) + d.band := by omega
  rw [scrollMap_of_inBand o hband, hturn, Nat.add_mod_right, Nat.mod_eq_of_lt (by omega)]
  omega

theorem scrollMap_zero (d : Scroll) (i : Nat) : scrollMap d 0 i = i := by
  by_cases hband : d.InBand i
  · have ⟨hlow, hhigh⟩ := hband
    exact scrollMap_of_inBand_of_lt hband (by omega)
  · exact scrollMap_of_not_inBand 0 hband

/-! ### One to one -/

theorem scrollMap_inBand {d : Scroll} (o : Nat) {i : Nat} (hband : d.InBand i) :
    d.InBand (scrollMap d o i) := by
  have ⟨hlow, hhigh⟩ := hband
  have hrotated : (i - d.lead + o) % d.band < d.band := Nat.mod_lt _ (by omega)
  rw [scrollMap_of_inBand o hband]
  exact ⟨Nat.le_add_right _ _, Nat.add_lt_add_left hrotated _⟩

/-- An index is in the band exactly when its image is, so the map cannot join a place of the band
with one outside it. -/
theorem scrollMap_inBand_iff (d : Scroll) (o i : Nat) : d.InBand (scrollMap d o i) ↔ d.InBand i := by
  refine ⟨fun himage => ?_, scrollMap_inBand o⟩
  by_contra hout
  exact hout (scrollMap_of_not_inBand o hout ▸ himage)

/-- Within the band: equal rotated places are congruent modulo the band's length, and the offset
cancels. -/
theorem scrollMap_injOn_band {d : Scroll} {o i j : Nat} (hi : d.InBand i) (hj : d.InBand j)
    (heq : scrollMap d o i = scrollMap d o j) : i = j := by
  rw [scrollMap_of_inBand o hi, scrollMap_of_inBand o hj] at heq
  have hcongr : i - d.lead ≡ j - d.lead [MOD d.band] :=
    Nat.ModEq.add_right_cancel' o (Nat.add_left_cancel heq)
  obtain ⟨hilow, hihigh⟩ := hi
  obtain ⟨hjlow, hjhigh⟩ := hj
  have hplace : i - d.lead = j - d.lead := hcongr.eq_of_lt_of_lt (by omega) (by omega)
  omega

theorem scrollMap_injective (d : Scroll) (o : Nat) : Function.Injective (scrollMap d o) := by
  intro i j heq
  have hsame : d.InBand i ↔ d.InBand j := by
    rw [← scrollMap_inBand_iff d o i, heq, scrollMap_inBand_iff]
  by_cases hi : d.InBand i
  · exact scrollMap_injOn_band hi (hsame.mp hi) heq
  · rwa [scrollMap_of_not_inBand o hi, scrollMap_of_not_inBand o (mt hsame.mpr hi)] at heq

/-- Settles O56: the map is the identity outside the band and a rotation within it, which keeps the
two apart and is one to one on each. -/
theorem scrollMapRotatesTheBand : Obligations.ScrollMapRotatesTheBand := by
  intro d o hpos hoffset
  have hfirst : d.InBand d.lead := ⟨Nat.le_refl _, Nat.lt_add_of_pos_right hpos⟩
  refine ⟨fun _ => scrollMap_of_lt_lead o, fun i hlow hhigh => ?_, fun _ => scrollMap_of_trail o,
    fun _ _ heq => scrollMap_injective d o heq, scrollMap_zero d, ?_, scrollMap_band_last hoffset⟩
  · exact ⟨scrollMap_of_inBand o ⟨hlow, hhigh⟩, scrollMap_inBand o ⟨hlow, hhigh⟩⟩
  · exact scrollMap_of_inBand_of_lt hfirst (by omega)

end Sys2Proof.Machine
end

/-! PROOFS. The down lane's CREDIT (R172). -/

section
namespace Sys2Proof.Machine

/-- What the CREDIT step computes, written through the up-lane setter: the dispatch and the body of
its arm, opened once. -/
theorem exec_credit (count : Byte) (s : State) :
    exec (.credit count) s
      = .next (s.withUp { s.up with sendCredits := min (s.up.sendCredits + count.toNat) Config.creditMax }) :=
  rfl

/-- Settles O17: CREDIT writes the up-lane transmitter alone, and of it the send credits alone; the
bound it writes under is the credit counters' maximum, 255 (R162). -/
theorem creditIsConsumed : Obligations.CreditIsConsumed := by
  intro count s
  have hmax : Config.creditMax = 255 := rfl
  rw [exec_credit, hmax, State.withUp]

end Sys2Proof.Machine
end

/-! PROOFS. The queue of steps, reset and power-on (R17, R27, R29, R61, R65, R79, R81, R101, R121, R129, R151,
R166, R171, R176), and the steps of the lanes (R130, R160 to R164, R169 to R171). -/

section
namespace Sys2Proof.Machine

-- one theorem at a time, as in the tests: many threads' stacks at once exceed the check's memory limit
set_option Elab.async false

/-! ### Saturating counters -/

theorem satSucc_eq_min (limit n : Nat) : satSucc limit n = min (n + 1) limit := by
  unfold satSucc
  split <;> omega

/-- A 16-bit counter holds at 65,535 (R146). -/
theorem count16_eq_min (n : Nat) : count16 n = min (n + 1) 65535 := satSucc_eq_min _ n

/-- A packet that the receiver drops is counted, and nothing else changes (R169). -/
theorem State.dropBad_eq (s : State) : s.dropBad = { s with badPackets := min (s.badPackets + 1) 65535 } := by
  rw [State.dropBad, count16_eq_min, State.withBadPackets]

/-! ### The queue of steps -/

theorem step_cons (c : Instr) (rest : List Instr) (s : State) :
    step { s with pending := c :: rest } = exec c { s with pending := rest } := rfl

theorem step_of_pending_nil {s : State} (hnil : s.pending = []) : step s = .next s := by
  rw [step, hnil]

/-- Settles O1: the two cases of `step`. -/
theorem stepRunsQueueFront : Obligations.StepRunsQueueFront :=
  ⟨step_cons, fun _ => step_of_pending_nil⟩

/-! ### Reset and power-on -/

/-- Settles O2: every block's power-on value is written out in `State.afterPowerOn`; the tables hold one record
at every index. -/
theorem resetLeavesSpecifiedValues : Obligations.ResetLeavesSpecifiedValues := by
  refine ⟨rfl, rfl, rfl, rfl, rfl, rfl, ⟨_, rfl, rfl, rfl, rfl⟩, rfl, rfl, rfl, rfl, rfl, fun i => ⟨?_, ?_⟩,
    fun i => ⟨?_, ?_⟩, rfl, rfl, rfl, rfl, rfl, rfl, rfl, fun i => ⟨?_, ?_⟩, rfl, rfl, rfl, rfl⟩
  all_goals exact Vector.getElem_replicate ..

theorem reset_reservationsHold : State.reset.reservationsHold := by decide

theorem reset_panesValid : State.reset.panesValid := by decide

theorem reset_tagsDistinct : State.reset.tagsDistinct := by decide

theorem reset_capacitiesHold : State.reset.capacitiesHold := by decide

theorem reset_countersHold : State.reset.countersHold := by decide

theorem default_palette_opacity {e : PaletteEntry} (he : e ∈ (Vector.replicate 256 ⟨0, 0, 0, 0⟩).toList) :
    e.opacity.toNat ≤ 16 := by
  rw [Vector.toList_replicate] at he
  rw [List.eq_of_mem_replicate he]
  decide

theorem MarkerUnit.default_line (i : Fin 4) :
    MarkerUnit.default.shadow[i].line ≤ 2047 ∧ MarkerUnit.default.active[i].line ≤ 2047 := by
  revert i
  decide

theorem reset_tablesInRange : State.reset.tablesInRange :=
  ⟨fun _ => default_palette_opacity, fun _ => default_palette_opacity, fun i => (MarkerUnit.default_line i).1,
    fun i => (MarkerUnit.default_line i).2⟩

theorem reset_settingsInRange : State.reset.settingsInRange := by decide

theorem reset_fade_sound : State.reset.fade.sound := by decide

theorem reset_writerSound : State.reset.writerSound := by decide

/-- The internal frame that runs from power-on fits the default timing, whenever it starts (R113, R121). -/
theorem Tracker.powerOn_sound (time : Nat) : (Tracker.powerOn time).sound :=
  ⟨(by decide : Timing.default.inRange), rfl, rfl⟩

/-- Settles O3: each invariant holds of the power-on values of its blocks. -/
theorem resetMeetsEveryInvariant : Obligations.ResetMeetsEveryInvariant :=
  ⟨reset_reservationsHold, reset_panesValid, reset_store_wf, reset_tagsDistinct, reset_capacitiesHold,
    reset_countersHold, reset_tablesInRange, reset_settingsInRange, reset_fade_sound, reset_writerSound,
    Tracker.powerOn_sound 0⟩

theorem exec_powerOn (time : Nat) (s : State) :
    exec (.powerOn time) s
      = .next (State.afterPowerOn time (s.store.powerOns + 1) s.orderings s.pending) := rfl

/-- A store that lists nothing is in canonical form. -/
theorem IndexStore.nil_wf (progress powerOns : Nat) : (⟨[], progress, powerOns⟩ : IndexStore).wf :=
  ⟨List.Pairwise.nil, fun _ hc => absurd hc List.not_mem_nil⟩

/-- After power-on nothing is cleared and nothing is listed, so an entry reads as its power-up value (R81). -/
theorem IndexStore.read_powerUp (powerOns a : Nat) :
    (⟨[], 0, powerOns⟩ : IndexStore).read a = Config.powerUpEntry powerOns a := by
  simp [IndexStore.read, cellAt, IndexStore.unlisted]

/-- Settles O4: POWER_ON answers the power-on state at its own time, with the next count of power-ons. -/
theorem powerOnRestoresEveryBlock : Obligations.PowerOnRestoresEveryBlock := fun time s =>
  ⟨_, exec_powerOn time s, rfl, rfl, IndexStore.nil_wf _ _, IndexStore.read_powerUp _⟩

/-! ### The receiver -/

theorem exec_badPacket_of_bad {bytes : List Byte} (hbad : readPacket bytes = none) (s : State) :
    exec (.badPacket bytes) s = .next s.dropBad := by
  rw [exec, execBadPacket, hbad]

theorem exec_badPacket_of_good {bytes : List Byte} {p : DownPacket} (hgood : readPacket bytes = some p) (s : State) :
    exec (.badPacket bytes) s = .next s := by
  rw [exec, execBadPacket, hgood]

theorem exec_line_of_long {pixels : List Pixel} (hlong : 2048 < pixels.length) (s : State) :
    exec (.line pixels) s = .next s.dropBad := by
  rw [exec, execLine, if_pos hlong]

theorem exec_command_of_long {params : List Byte} (hlong : 248 < params.length) (time : Nat) (dest : Byte) (tag : Half)
    (code : Byte) (s : State) : exec (.command time dest tag code params) s = .next s.dropBad := by
  rw [exec, execCommand, if_pos hlong]

theorem State.addressedBy_iff (s : State) (dest : Byte) :
    s.addressedBy dest = true ↔ dest.toNat = s.address ∧ 1 ≤ s.address ∧ s.address ≤ 30 := by
  rw [State.addressedBy, decide_eq_true_eq]

/-- A COMMAND for another destination is handed on (R130, R170). -/
theorem exec_command_of_other {params : List Byte} {dest : Byte} {s : State} (hlen : params.length ≤ 248)
    (hnot31 : dest ≠ 31) (hother : ¬ (dest.toNat = s.address ∧ 1 ≤ s.address ∧ s.address ≤ 30)) (time : Nat)
    (tag : Half) (code : Byte) :
    exec (.command time dest tag code params) s = .next (s.handDown (.command dest tag code params)) := by
  rw [exec, execCommand, if_neg (Nat.not_lt.mpr hlen), if_neg (mt (s.addressedBy_iff dest).mp hother), if_neg hnot31]

/-- Settles O16: three ways to drop and one to forward. -/
theorem receiverDropsAndForwards : Obligations.ReceiverDropsAndForwards := by
  refine ⟨⟨fun bytes s hbad => ?_, fun pixels s hlong => ?_, fun time dest tag code params s hlong => ?_⟩,
    fun time dest tag code params s hlen hnot31 hother => ?_⟩
  · rw [exec_badPacket_of_bad hbad, State.dropBad_eq]
  · rw [exec_line_of_long hlong, State.dropBad_eq]
  · rw [exec_command_of_long hlong, State.dropBad_eq]
  · rw [exec_command_of_other hlen hnot31 hother]
    rfl

/-! ### The relay buffer and the arbiter (R160 to R164) -/

theorem exec_upLanePacket_of_room {s : State} (hroom : s.up.relay.length < 8) (bytes : List Byte) :
    exec (.upLanePacket bytes) s = .next (s.withUp { s.up with relay := s.up.relay ++ [bytes] }) := by
  rw [exec, execUpLanePacket, if_pos (show s.up.relay.length < Config.relaySize from hroom)]

theorem exec_upLanePacket_of_full {s : State} (hfull : 8 ≤ s.up.relay.length) (bytes : List Byte) :
    exec (.upLanePacket bytes) s
      = .next (s.withUp { s.up with relayOverflow := count16 s.up.relayOverflow }) := by
  rw [exec, execUpLanePacket, if_neg (show ¬ s.up.relay.length < Config.relaySize from Nat.not_lt.mpr hfull)]

/-- The relay buffer sends when it holds a packet and the outbox is empty or has had its turn (R164). -/
theorem UpLane.beginSend_relay {u : UpLane} {b : List Byte} {rest : List (List Byte)} (hrelay : u.relay = b :: rest)
    (hturn : u.outbox = [] ∨ u.turn = .relay) : u.beginSend = some (u.sendRelay b rest) := by
  unfold UpLane.beginSend
  cases hout : u.outbox with
  | nil => simp only [hrelay]
  | cons p prest => simp only [hrelay, hturn.resolve_left (by simp [hout])]

/-- The outbox sends when it holds a packet and the relay buffer is empty or has had its turn (R164). -/
theorem UpLane.beginSend_outbox {u : UpLane} {p : UpPacket} {rest : List UpPacket} (hout : u.outbox = p :: rest)
    (hturn : u.relay = [] ∨ u.turn = .outbox) : u.beginSend = some (u.sendOutbox p rest) := by
  unfold UpLane.beginSend
  cases hrelay : u.relay with
  | nil => simp only [hout]
  | cons b brest => simp only [hout, hturn.resolve_left (by simp [hrelay])]

theorem UpLane.beginSend_none {u : UpLane} (hrelay : u.relay = []) (hout : u.outbox = []) : u.beginSend = none := by
  simp only [UpLane.beginSend, hrelay, hout]

theorem UpLane.sendRelay_eq (u : UpLane) (b : List Byte) (rest : List (List Byte)) :
    u.sendRelay b rest = { u with
      relay := rest
      sendCredits := u.sendCredits - 1
      creditsOwed := min (u.creditsOwed + 1) 255
      turn := .outbox
      sending := some (.relayed b) } := by
  rw [UpLane.sendRelay, satSucc_eq_min, Config.creditMax]

theorem exec_sendBegin_of_due {s : State} (hfree : s.up.sending = none) (hcredit : 1 ≤ s.up.sendCredits) {u : UpLane}
    (hbegin : s.up.beginSend = some u) : exec .sendBegin s = .next (s.withUp u) := by
  rw [exec, execSendBegin, if_pos ⟨hfree, hcredit⟩, hbegin]

theorem exec_sendBegin_of_undue {s : State}
    (hundue : s.up.sending ≠ none ∨ s.up.sendCredits = 0 ∨ (s.up.relay = [] ∧ s.up.outbox = [])) :
    exec .sendBegin s = .next s := by
  rw [exec, execSendBegin]
  split
  · next hdue =>
    obtain ⟨hfree, hcredit⟩ := hdue
    obtain ⟨hrelay, hout⟩ := (hundue.resolve_left (not_not.mpr hfree)).resolve_left (by omega)
    rw [UpLane.beginSend_none hrelay hout]
  · rfl

/-- Settles O18: a packet from below by the room in the relay buffer, and a send by the arbiter's four cases. -/
theorem upLaneQueuesServeTheTurn : Obligations.UpLaneQueuesServeTheTurn := by
  refine ⟨fun bytes s => ⟨fun hroom => exec_upLanePacket_of_room hroom bytes, fun hfull => ?_⟩,
    fun s => ⟨fun hfree hcredit => ⟨fun b rest hrelay hturn => ?_, fun p rest hout hturn => ?_⟩,
      exec_sendBegin_of_undue, rfl⟩⟩
  · rw [exec_upLanePacket_of_full hfull, count16_eq_min, State.withUp]
  · rw [exec_sendBegin_of_due hfree hcredit (UpLane.beginSend_relay hrelay hturn), UpLane.sendRelay_eq, State.withUp]
  · rw [exec_sendBegin_of_due hfree hcredit (UpLane.beginSend_outbox hout hturn)]
    rfl

/-! ### Emission (R161, R171) -/

theorem exec_creditEmission_of_owed {s : State} (hgap : s.down.emitting = none) (howed : 0 < s.up.creditsOwed) :
    exec .creditEmission s = .next
      ((s.withDown { s.down with emitting := some (.credit (byte1 s.up.creditsOwed)) }).withUp
        { s.up with creditsOwed := 0 }) := by
  rw [exec, execCreditEmission, if_pos ⟨hgap, howed⟩]

theorem exec_creditEmission_of_undue {s : State} (hundue : s.down.emitting ≠ none ∨ s.up.creditsOwed = 0) :
    exec .creditEmission s = .next s := by
  rw [exec, execCreditEmission, if_neg]
  rintro ⟨hgap, howed⟩
  exact hundue.elim (fun h => h hgap) (fun h => by omega)

theorem exec_packetEmission_of_due {s : State} (hgap : s.down.emitting = none) (hnone : s.up.creditsOwed = 0)
    {p : DownPacket} {rest : List DownPacket} (hwait : s.down.waiting = p :: rest) :
    exec .packetEmission s = .next (s.withDown ⟨rest, some p⟩) := by
  simp only [exec, execPacketEmission, hwait, hgap, hnone, and_self, ↓reduceIte]

theorem exec_packetEmission_of_undue {s : State} (hundue : s.down.emitting ≠ none ∨ 0 < s.up.creditsOwed) :
    exec .packetEmission s = .next s := by
  rw [exec, execPacketEmission]
  split
  · rw [if_neg]
    rintro ⟨hgap, hnone⟩
    exact hundue.elim (fun h => h hgap) (fun h => by omega)
  · rfl

/-- Settles O19: the conditions of the two emissions exclude each other, the CREDIT's coming first. -/
theorem emissionPutsCreditFirst : Obligations.EmissionPutsCreditFirst := by
  intro s
  refine ⟨fun hgap howed hmax => ⟨_, byte1_toNat_of_le hmax, exec_creditEmission_of_owed hgap howed⟩,
    fun p rest hgap hnone hwait => exec_packetEmission_of_due hgap hnone hwait,
    fun hbusy => ⟨exec_creditEmission_of_undue (.inl hbusy), exec_packetEmission_of_undue (.inl hbusy)⟩,
    fun howed => exec_packetEmission_of_undue (.inr howed),
    fun hnone => exec_creditEmission_of_undue (.inr hnone), rfl⟩

end Sys2Proof.Machine
end

/-! PROOFS. Bytes on the lanes: fields of two and three bytes, the envelope with its CRC (R167 to R170), and the
parameter blocks of Table 11-6 (R131, R177). Every reader is the inverse of its writer. -/

section
namespace Sys2Proof.Machine

-- one theorem at a time, as in the tests: many threads' stacks at once exceed the check's memory limit
set_option Elab.async false

/-! ### Fields (R167) -/

theorem half_toNat (hi lo : Byte) : (half hi lo).toNat = hi.toNat * 256 + lo.toNat := by
  rw [half, BitVec.toNat_append, ← Nat.shiftLeft_add_eq_or_of_lt lo.isLt, Nat.shiftLeft_eq]

theorem wide_toNat (hi mid lo : Byte) :
    (wide hi mid lo).toNat = (hi.toNat * 256 + mid.toNat) * 256 + lo.toNat := by
  rw [wide, BitVec.toNat_append, ← Nat.shiftLeft_add_eq_or_of_lt lo.isLt, Nat.shiftLeft_eq, ← half_toNat, half]

@[simp] theorem byte1_toNat (b : Byte) : byte1 b.toNat = b := BitVec.ofNat_toNat ..

/-- Two bytes written from the field that two bytes make are those bytes. -/
@[simp] theorem bytes2_half (hi lo : Byte) : bytes2 (half hi lo).toNat = [hi, lo] := by
  have hhi := hi.isLt
  have hlo := lo.isLt
  simp only [bytes2, byte1, half_toNat, List.cons.injEq, and_true]
  constructor <;> apply BitVec.eq_of_toNat_eq <;> rw [BitVec.toNat_ofNat] <;> omega

/-- The field that its own two bytes make is the field. -/
@[simp] theorem half_byte1 (h : Half) : half (byte1 (h.toNat / 256)) (byte1 h.toNat) = h := by
  have hlt := h.isLt
  apply BitVec.eq_of_toNat_eq
  simp only [half_toNat, byte1, BitVec.toNat_ofNat]
  omega

@[simp] theorem bytes3_wide (hi mid lo : Byte) : bytes3 (wide hi mid lo).toNat = [hi, mid, lo] := by
  have hhi := hi.isLt
  have hmid := mid.isLt
  have hlo := lo.isLt
  simp only [bytes3, byte1, wide_toNat, List.cons.injEq, and_true]
  refine ⟨?_, ?_, ?_⟩ <;> apply BitVec.eq_of_toNat_eq <;> rw [BitVec.toNat_ofNat] <;> omega

@[simp] theorem wide_byte1 (w : Wide) :
    wide (byte1 (w.toNat / 65536)) (byte1 (w.toNat / 256)) (byte1 w.toNat) = w := by
  have hlt := w.isLt
  apply BitVec.eq_of_toNat_eq
  simp only [wide_toNat, byte1, BitVec.toNat_ofNat]
  omega

@[simp] theorem bytes2_length (n : Nat) : (bytes2 n).length = 2 := rfl

@[simp] theorem bytes3_length (n : Nat) : (bytes3 n).length = 3 := rfl

/-- The field that the two bytes of a number below 65,536 make is that number. -/
theorem half_byte1_toNat {n : Nat} (hn : n < 65536) : (half (byte1 (n / 256)) (byte1 n)).toNat = n := by
  simp only [half_toNat, byte1, BitVec.toNat_ofNat]
  omega

/-! ### Pixels of a LINE -/

@[simp] theorem readPixels_pixelBytes (pixels : List Pixel) : readPixels (pixelBytes pixels) = some pixels := by
  induction pixels with
  | nil => rfl
  | cons p ps ih => rw [pixelBytes, readPixels, ih, Option.map_some]

theorem pixelBytes_of_readPixels {bytes : List Byte} {pixels : List Pixel} (h : readPixels bytes = some pixels) :
    bytes = pixelBytes pixels := by
  induction bytes using readPixels.induct generalizing pixels with
  | case1 =>
    obtain rfl := Option.some.inj h
    rfl
  | case2 r g b rest ih =>
    obtain ⟨ps, hps, rfl⟩ := Option.map_eq_some_iff.mp h
    rw [pixelBytes, ih hps]
  | case3 bytes hnil hcons =>
    rw [readPixels] at h
    · cases h
    · exact hnil
    · exact hcons

theorem pixelBytes_length (pixels : List Pixel) : (pixelBytes pixels).length = 3 * pixels.length := by
  induction pixels with
  | nil => rfl
  | cons p ps ih =>
    simp only [pixelBytes, List.length_cons, ih]
    omega

/-! ### Kind and payload (Table 11-1) -/

theorem readBody_body {p : DownPacket} (hfits : packetFits p = true) : readBody p.body.1 p.body.2 = some p := by
  cases p with
  | line pixels =>
    have hmax : pixels.length ≤ 2048 := by simpa [packetFits] using hfits
    have hcount := half_byte1_toNat (show pixels.length < 65536 by omega)
    simp [DownPacket.body, bytes2, readBody, hcount, hmax]
  | command dest tag code params =>
    have hmax : params.length ≤ 248 := by simpa [packetFits] using hfits
    simp [DownPacket.body, bytes2, readBody, hmax]
  | frameOpen number width lines => simp [DownPacket.body, bytes2, readBody]
  | frameClose number => simp [DownPacket.body, bytes2, readBody]
  | blank => rfl
  | credit count => rfl

theorem body_of_readBody {kind : Byte} {payload : List Byte} {p : DownPacket} (h : readBody kind payload = some p) :
    packetFits p = true ∧ p.body = (kind, payload) := by
  unfold readBody at h
  split at h
  · next hkind =>
    split at h
    · obtain rfl := Option.some.inj h
      simp [packetFits, DownPacket.body, hkind]
    · cases h
  split at h
  · next hkind =>
    split at h
    · next c1 c0 rest =>
      split at h
      · next pixels hread =>
        split at h
        · next hsize =>
          obtain ⟨hcount, hmax⟩ := hsize
          obtain rfl := Option.some.inj h
          obtain rfl := pixelBytes_of_readPixels hread
          simp [packetFits, DownPacket.body, hkind, hcount, hcount ▸ hmax]
        · cases h
      · cases h
    · cases h
  split at h
  · next hkind =>
    split at h
    · obtain rfl := Option.some.inj h
      simp [packetFits, DownPacket.body, hkind]
    · cases h
  split at h
  · next hkind =>
    split at h
    · obtain rfl := Option.some.inj h
      simp [packetFits, DownPacket.body, hkind]
    · cases h
  split at h
  · next hkind =>
    split at h
    · split at h
      · next hmax =>
        obtain rfl := Option.some.inj h
        simp [packetFits, DownPacket.body, hkind, hmax]
      · cases h
    · cases h
  split at h
  · next hkind =>
    split at h
    · obtain rfl := Option.some.inj h
      simp [packetFits, DownPacket.body, hkind]
    · cases h
  · cases h

/-- The longest payload is that of a LINE of 2,048 pixels, so the length field holds every payload's length. -/
theorem body_length_lt {p : DownPacket} (hfits : packetFits p = true) : p.body.2.length < 65536 := by
  cases p with
  | line pixels =>
    have hmax : pixels.length ≤ 2048 := by simpa [packetFits] using hfits
    simp only [DownPacket.body, List.length_append, bytes2_length, pixelBytes_length]
    omega
  | command dest tag code params =>
    have hmax : params.length ≤ 248 := by simpa [packetFits] using hfits
    simp only [DownPacket.body, List.length_append, List.length_cons, bytes2_length]
    omega
  | frameOpen number width lines => simp [DownPacket.body]
  | frameClose number => simp [DownPacket.body]
  | blank => simp [DownPacket.body]
  | credit count => simp [DownPacket.body]

/-! ### The envelope (R167, R168) -/

theorem readPacket_envelope (kind : Byte) {payload : List Byte} (hlen : payload.length < 65536) :
    readPacket (envelope kind payload) = readBody kind payload := by
  have hcount := half_byte1_toNat hlen
  simp [envelope, readPacket, bytes2, hcount, Nat.add_comm 3]

/-- Bytes that the receiver takes are an envelope, and its content is read by kind. -/
theorem envelope_of_readPacket {bytes : List Byte} {p : DownPacket} (h : readPacket bytes = some p) :
    ∃ kind payload, bytes = envelope kind payload ∧ readBody kind payload = some p := by
  unfold readPacket at h
  split at h
  · next kind l1 l0 rest =>
    dsimp only at h
    split at h
    · next hgood =>
      obtain ⟨hlen, hcrc⟩ := hgood
      refine ⟨kind, rest.take (half l1 l0).toNat, ?_, h⟩
      have htake : (rest.take (half l1 l0).toNat).length = (half l1 l0).toNat := by
        rw [List.length_take]
        omega
      have hbody : (kind :: l1 :: l0 :: rest).take (3 + (half l1 l0).toNat)
          = kind :: l1 :: l0 :: rest.take (half l1 l0).toNat := by
        rw [Nat.add_comm]
        rfl
      rw [hbody] at hcrc
      simp only [envelope, htake, bytes2_half, List.cons_append, List.nil_append, hcrc, List.take_append_drop]
    · cases h
  · cases h

theorem readPacket_eq_some_iff (bytes : List Byte) (p : DownPacket) :
    readPacket bytes = some p ↔ packetFits p = true ∧ bytes = p.bytes := by
  constructor
  · intro h
    obtain ⟨kind, payload, rfl, hbody⟩ := envelope_of_readPacket h
    obtain ⟨hfits, hpair⟩ := body_of_readBody hbody
    exact ⟨hfits, by rw [DownPacket.bytes, hpair]⟩
  · rintro ⟨hfits, rfl⟩
    rw [DownPacket.bytes, readPacket_envelope _ (body_length_lt hfits), readBody_body hfits]

theorem receive_of_good {bytes : List Byte} {p : DownPacket} (h : readPacket bytes = some p) (time : Nat) :
    receive time bytes = packetStep time p := by
  rw [receive, h]
  cases p <;> rfl

/-- Settles O14: reading undoes writing for kind and payload, and for the envelope around them. -/
theorem goodPacketsAreTheirBytes : Obligations.GoodPacketsAreTheirBytes := by
  refine ⟨readPacket_eq_some_iff, fun time p hfits => ?_, fun time bytes hbad => ?_⟩
  · exact receive_of_good ((readPacket_eq_some_iff _ p).mpr ⟨hfits, rfl⟩) time
  · rw [receive, hbad]

/-! ### Lists in parameter blocks -/

@[simp] theorem readEntries_entryBytes (entries : List PaletteEntry) :
    readEntries (entryBytes entries) = some entries := by
  induction entries with
  | nil => rfl
  | cons e es ih => rw [entryBytes, readEntries, ih, Option.map_some]

theorem entryBytes_of_readEntries {bytes : List Byte} {entries : List PaletteEntry}
    (h : readEntries bytes = some entries) : bytes = entryBytes entries := by
  induction bytes using readEntries.induct generalizing entries with
  | case1 =>
    obtain rfl := Option.some.inj h
    rfl
  | case2 r g b o rest ih =>
    obtain ⟨es, hes, rfl⟩ := Option.map_eq_some_iff.mp h
    rw [entryBytes, ih hes]
  | case3 bytes hnil hcons =>
    rw [readEntries] at h
    · cases h
    · exact hnil
    · exact hcons

theorem entryBytes_length (entries : List PaletteEntry) : (entryBytes entries).length = 4 * entries.length := by
  induction entries with
  | nil => rfl
  | cons e es ih =>
    simp only [entryBytes, List.length_cons, ih]
    omega

/-- Bytes in whole groups of four are palette entries. -/
theorem readEntries_of_length {k : Nat} {bytes : List Byte} (h : bytes.length = 4 * k) :
    ∃ entries, readEntries bytes = some entries ∧ entries.length = k := by
  induction k generalizing bytes with
  | zero =>
    obtain rfl := List.length_eq_zero_iff.mp h
    exact ⟨[], rfl, rfl⟩
  | succ k ih =>
    match bytes, h with
    | r :: g :: b :: o :: rest, h =>
      simp only [List.length_cons] at h
      obtain ⟨es, hread, hlen⟩ := ih (show rest.length = 4 * k by omega)
      exact ⟨⟨r, g, b, o⟩ :: es, by rw [readEntries, hread, Option.map_some], by rw [List.length_cons, hlen]⟩

@[simp] theorem readRuns_runBytes (runs : List Run) : readRuns (runBytes runs) = some runs := by
  induction runs with
  | nil => rfl
  | cons r rs ih => simp [runBytes, bytes2, readRuns, ih]

theorem runBytes_of_readRuns {bytes : List Byte} {runs : List Run} (h : readRuns bytes = some runs) :
    bytes = runBytes runs := by
  induction bytes using readRuns.induct generalizing runs with
  | case1 =>
    obtain rfl := Option.some.inj h
    rfl
  | case2 v c1 c0 rest ih =>
    obtain ⟨rs, hrs, rfl⟩ := Option.map_eq_some_iff.mp h
    simp [runBytes, ← ih hrs]
  | case3 bytes hnil hcons =>
    rw [readRuns] at h
    · cases h
    · exact hnil
    · exact hcons

theorem runBytes_length (runs : List Run) : (runBytes runs).length = 3 * runs.length := by
  induction runs with
  | nil => rfl
  | cons r rs ih =>
    simp only [runBytes, List.length_cons, List.length_append, bytes2_length, ih]
    omega

/-- Bytes in whole groups of three are runs. -/
theorem readRuns_of_length {k : Nat} {bytes : List Byte} (h : bytes.length = 3 * k) :
    ∃ runs, readRuns bytes = some runs ∧ runs.length = k := by
  induction k generalizing bytes with
  | zero =>
    obtain rfl := List.length_eq_zero_iff.mp h
    exact ⟨[], rfl, rfl⟩
  | succ k ih =>
    match bytes, h with
    | v :: c1 :: c0 :: rest, h =>
      simp only [List.length_cons] at h
      obtain ⟨rs, hread, hlen⟩ := ih (show rest.length = 3 * k by omega)
      exact ⟨⟨v, half c1 c0⟩ :: rs, by rw [readRuns, hread, Option.map_some], by rw [List.length_cons, hlen]⟩

/-! ### What each reader takes (Table 11-6) -/

/-- The reader takes only blocks of commands with this code, each as the command it was written from. -/
def ReadsOnly (reader : List Byte → Option Request) (code : Byte) : Prop :=
  ∀ params r, reader params = some r →
    requestLengthsFit r = true ∧ code = requestCode r ∧ params = requestParams r

theorem readPaneSet_readsOnly : ReadsOnly readPaneSet 0x01 := by
  intro params r h
  unfold readPaneSet at h
  split at h
  · obtain rfl := Option.some.inj h
    simp [requestLengthsFit, requestCode, requestParams]
  · cases h

theorem readPaneScroll_readsOnly : ReadsOnly readPaneScroll 0x03 := by
  intro params r h
  unfold readPaneScroll at h
  split at h
  · obtain rfl := Option.some.inj h
    simp [requestLengthsFit, requestCode, requestParams]
  · cases h

theorem readPaletteLoad_readsOnly : ReadsOnly readPaletteLoad 0x04 := by
  intro params r h
  unfold readPaletteLoad at h
  split at h
  · split at h
    · next entries hread =>
      split at h
      · next hlen =>
        obtain rfl := Option.some.inj h
        obtain rfl := entryBytes_of_readEntries hread
        simp [requestLengthsFit, requestCode, requestParams, hlen]
      · cases h
    · cases h
  · cases h

theorem readWindow_readsOnly : ReadsOnly readWindow 0x10 := by
  intro params r h
  unfold readWindow at h
  split at h
  · obtain rfl := Option.some.inj h
    simp [requestLengthsFit, requestCode, requestParams]
  · cases h

theorem readWrite_readsOnly : ReadsOnly readWrite 0x11 := by
  intro params r h
  unfold readWrite at h
  split at h
  · next runs hread =>
    split at h
    · next hlen =>
      obtain rfl := Option.some.inj h
      obtain rfl := runBytes_of_readRuns hread
      simp [requestLengthsFit, requestCode, requestParams, hlen]
    · cases h
  · cases h

theorem readStatus_readsOnly : ReadsOnly readStatus 0x30 := by
  intro params r h
  unfold readStatus at h
  split at h
  · obtain rfl := Option.some.inj h
    exact ⟨rfl, rfl, rfl⟩
  · obtain rfl := Option.some.inj h
    exact ⟨rfl, rfl, rfl⟩
  · cases h

theorem readNothing_readsOnly {r : Request} (hfits : requestLengthsFit r = true) (hnil : requestParams r = []) :
    ReadsOnly (readNothing r) (requestCode r) := by
  intro params r' h
  unfold readNothing at h
  split at h
  · obtain rfl := Option.some.inj h
    exact ⟨hfits, rfl, hnil.symm⟩
  · cases h

theorem readOne_readsOnly {f : Byte → Request} {code : Byte}
    (hf : ∀ a, requestLengthsFit (f a) = true ∧ code = requestCode (f a) ∧ [a] = requestParams (f a)) :
    ReadsOnly (readOne f) code := by
  intro params r h
  unfold readOne at h
  split at h
  · obtain rfl := Option.some.inj h
    exact hf _
  · cases h

theorem readTwo_readsOnly {f : Byte → Byte → Request} {code : Byte}
    (hf : ∀ a b, requestLengthsFit (f a b) = true ∧ code = requestCode (f a b) ∧ [a, b] = requestParams (f a b)) :
    ReadsOnly (readTwo f) code := by
  intro params r h
  unfold readTwo at h
  split at h
  · obtain rfl := Option.some.inj h
    exact hf _ _
  · cases h

theorem readThree_readsOnly {f : Byte → Byte → Byte → Request} {code : Byte}
    (hf : ∀ a b c, requestLengthsFit (f a b c) = true ∧ code = requestCode (f a b c)
      ∧ [a, b, c] = requestParams (f a b c)) :
    ReadsOnly (readThree f) code := by
  intro params r h
  unfold readThree at h
  split at h
  · obtain rfl := Option.some.inj h
    exact hf _ _ _
  · cases h

theorem readFour_readsOnly {f : Byte → Byte → Byte → Byte → Request} {code : Byte}
    (hf : ∀ a b c d, requestLengthsFit (f a b c d) = true ∧ code = requestCode (f a b c d)
      ∧ [a, b, c, d] = requestParams (f a b c d)) :
    ReadsOnly (readFour f) code := by
  intro params r h
  unfold readFour at h
  split at h
  · obtain rfl := Option.some.inj h
    exact hf _ _ _ _
  · cases h

/-- One test of the code in front of another reader. -/
theorem ReadsOnly.ite {first rest : List Byte → Option Request} {c code : Byte} (hfirst : ReadsOnly first c)
    (hrest : ReadsOnly rest code) :
    ReadsOnly (fun params => if code = c then first params else rest params) code := by
  intro params r h
  dsimp only at h
  split at h
  · next hcode => exact hcode ▸ hfirst params r h
  · exact hrest params r h

theorem readRequest_readsOnly (code : Byte) : ReadsOnly (readRequest code) code :=
  .ite readPaneSet_readsOnly <|
  .ite (readTwo_readsOnly (fun _ _ => ⟨rfl, rfl, rfl⟩)) <|
  .ite readPaneScroll_readsOnly <|
  .ite readPaletteLoad_readsOnly <|
  .ite (readFour_readsOnly (fun _ _ _ _ => by simp [requestLengthsFit, requestCode, requestParams])) <|
  .ite (readThree_readsOnly (fun _ _ _ => ⟨rfl, rfl, rfl⟩)) <|
  .ite readWindow_readsOnly <|
  .ite readWrite_readsOnly <|
  .ite (readOne_readsOnly (fun _ => ⟨rfl, rfl, rfl⟩)) <|
  .ite (readOne_readsOnly (fun _ => ⟨rfl, rfl, rfl⟩)) <|
  .ite (readNothing_readsOnly (r := .commit) rfl rfl) <|
  .ite (readNothing_readsOnly (r := .discard) rfl rfl) <|
  .ite (readThree_readsOnly (fun _ _ _ => by simp [requestLengthsFit, requestCode, requestParams])) <|
  .ite (readThree_readsOnly (fun _ _ _ => ⟨rfl, rfl, rfl⟩)) <|
  .ite (readOne_readsOnly (fun _ => ⟨rfl, rfl, rfl⟩)) <|
  .ite (readThree_readsOnly (fun _ _ _ => ⟨rfl, rfl, rfl⟩)) <|
  .ite (readNothing_readsOnly (r := .identify) rfl rfl) <|
  .ite readStatus_readsOnly <|
  .ite (readNothing_readsOnly (r := .cancel) rfl rfl) <|
  .ite (readNothing_readsOnly (r := .resetPart) rfl rfl) <|
  .ite (readOne_readsOnly (fun _ => ⟨rfl, rfl, rfl⟩))
    fun _ _ h => nomatch h

/-! ### Reading back a written block -/

theorem readRequest_params {r : Request} (hfits : requestLengthsFit r = true) :
    readRequest (requestCode r) (requestParams r) = some r := by
  cases r with
  | paneSet p => simp [requestCode, requestParams, readRequest, readPaneSet, bytes2, bytes3]
  | paneScroll p => simp [requestCode, requestParams, readRequest, readPaneScroll, bytes2]
  | paletteLoad first entries =>
    have hlen : 1 ≤ entries.length ∧ entries.length ≤ 48 := by simpa [requestLengthsFit] using hfits
    simp [requestCode, requestParams, readRequest, readPaletteLoad, hlen]
  | markerSet slot line action => simp [requestCode, requestParams, readRequest, readFour, bytes2]
  | window p => simp [requestCode, requestParams, readRequest, readWindow, bytes2, bytes3]
  | write runs =>
    have hlen : 1 ≤ runs.length ∧ runs.length ≤ 60 := by simpa [requestLengthsFit] using hfits
    simp [requestCode, requestParams, readRequest, readWrite, hlen]
  | fade target frames => simp [requestCode, requestParams, readRequest, readThree, bytes2]
  | status flag => cases flag <;> rfl
  | paneState | backgroundSet | fill | read | commit | discard | config | queryPane | queryPalette | identify | cancel
  | resetPart | enumerate => rfl

theorem readRequest_eq_some_iff (code : Byte) (params : List Byte) (r : Request) :
    readRequest code params = some r ↔
      requestLengthsFit r = true ∧ code = requestCode r ∧ params = requestParams r := by
  refine ⟨readRequest_readsOnly code params r, ?_⟩
  rintro ⟨hfits, rfl, rfl⟩
  exact readRequest_params hfits

/-! ### Lengths (Table 11-6) -/

theorem readOne_isSome {f : Byte → Request} : ∀ {params : List Byte}, params.length = 1 → (readOne f params).isSome
  | [_], _ => rfl

theorem readTwo_isSome {f : Byte → Byte → Request} :
    ∀ {params : List Byte}, params.length = 2 → (readTwo f params).isSome
  | [_, _], _ => rfl

theorem readThree_isSome {f : Byte → Byte → Byte → Request} :
    ∀ {params : List Byte}, params.length = 3 → (readThree f params).isSome
  | [_, _, _], _ => rfl

theorem readFour_isSome {f : Byte → Byte → Byte → Byte → Request} :
    ∀ {params : List Byte}, params.length = 4 → (readFour f params).isSome
  | [_, _, _, _], _ => rfl

theorem readNothing_isSome {r : Request} :
    ∀ {params : List Byte}, params.length = 0 → (readNothing r params).isSome
  | [], _ => rfl

theorem readStatus_isSome : ∀ {params : List Byte}, params.length ≤ 1 → (readStatus params).isSome
  | [], _ => rfl
  | [_], _ => rfl

theorem readPaneSet_isSome : ∀ {params : List Byte}, params.length = 19 → (readPaneSet params).isSome
  | [_, _, _, _, _, _, _, _, _, _, _, _, _, _, _, _, _, _, _], _ => rfl

theorem readPaneScroll_isSome : ∀ {params : List Byte}, params.length = 12 → (readPaneScroll params).isSome
  | [_, _, _, _, _, _, _, _, _, _, _, _], _ => rfl

theorem readWindow_isSome : ∀ {params : List Byte}, params.length = 10 → (readWindow params).isSome
  | [_, _, _, _, _, _, _, _, _, _], _ => rfl

theorem readPaletteLoad_isSome :
    ∀ {params : List Byte}, (∃ k, 1 ≤ k ∧ k ≤ 48 ∧ params.length = 1 + 4 * k) → (readPaletteLoad params).isSome
  | [], ⟨k, _, _, hlen⟩ => by
    rw [List.length_nil] at hlen
    omega
  | first :: rest, ⟨k, hmin, hmax, hlen⟩ => by
    rw [List.length_cons] at hlen
    obtain ⟨entries, hread, rfl⟩ := readEntries_of_length (show rest.length = 4 * k by omega)
    simp [readPaletteLoad, hread, hmin, hmax]

theorem readWrite_isSome {params : List Byte} (h : ∃ k, 1 ≤ k ∧ k ≤ 60 ∧ params.length = 3 * k) :
    (readWrite params).isSome := by
  obtain ⟨k, hmin, hmax, hlen⟩ := h
  obtain ⟨runs, hread, rfl⟩ := readRuns_of_length hlen
  simp [readWrite, hread, hmin, hmax]

/-- Settles O15: each reader takes the blocks its command is written as, and those of its lengths. -/
theorem commandBlocksAreTheirBytes : Obligations.CommandBlocksAreTheirBytes := by
  refine ⟨readRequest_eq_some_iff, fun code params => ⟨fun hsome => ?_, ?_⟩⟩
  · obtain ⟨r, hread⟩ := Option.isSome_iff_exists.mp hsome
    obtain ⟨hfits, rfl, rfl⟩ := readRequest_readsOnly code params r hread
    cases r with
    | paletteLoad first entries =>
      have hlen : 1 ≤ entries.length ∧ entries.length ≤ 48 := by simpa [requestLengthsFit] using hfits
      exact .inr (.inr (.inr (.inl ⟨rfl, entries.length, hlen.1, hlen.2, by
        rw [requestParams, List.length_cons, entryBytes_length, Nat.add_comm]⟩)))
    | write runs =>
      have hlen : 1 ≤ runs.length ∧ runs.length ≤ 60 := by simpa [requestLengthsFit] using hfits
      exact .inr (.inr (.inr (.inr (.inr (.inr (.inr (.inl ⟨rfl, runs.length, hlen.1, hlen.2, by
        rw [requestParams, runBytes_length]⟩)))))))
    | status flag => cases flag <;> simp [requestCode, requestParams]
    | _ => simp [requestCode, requestParams]
  · rintro (⟨rfl, h⟩ | ⟨rfl, h⟩ | ⟨rfl, h⟩ | ⟨rfl, h⟩ | ⟨rfl, h⟩ | ⟨rfl, h⟩ | ⟨rfl, h⟩ | ⟨rfl, h⟩ | ⟨rfl, h⟩ | ⟨rfl, h⟩
      | ⟨rfl, h⟩ | ⟨rfl, h⟩ | ⟨rfl, h⟩ | ⟨rfl, h⟩ | ⟨rfl, h⟩ | ⟨rfl, h⟩ | ⟨rfl, h⟩ | ⟨rfl, h⟩ | ⟨rfl, h⟩ | ⟨rfl, h⟩ | ⟨rfl, h⟩)
    · exact readPaneSet_isSome h
    · exact readTwo_isSome h
    · exact readPaneScroll_isSome h
    · exact readPaletteLoad_isSome h
    · exact readFour_isSome h
    · exact readThree_isSome h
    · exact readWindow_isSome h
    · exact readWrite_isSome h
    · exact readOne_isSome h
    · exact readOne_isSome h
    · exact readNothing_isSome h
    · exact readNothing_isSome h
    · exact readThree_isSome h
    · exact readThree_isSome h
    · exact readOne_isSome h
    · exact readThree_isSome h
    · exact readNothing_isSome h
    · exact readStatus_isSome h
    · exact readNothing_isSome h
    · exact readNothing_isSome h
    · exact readOne_isSome h

end Sys2Proof.Machine
end

/-! PROOFS. Admission to the outbox in the words of the statements, and the orders in which offers that come
together reach it (R155 to R159). -/

section
namespace Sys2Proof.Machine

-- one theorem at a time, as in the tests: many threads' stacks at once exceed the check's memory limit
set_option Elab.async false

/-! ### Unreserved packets (R156, R157) -/

/-- The free slots exceed the reservation count when outbox and reservations together leave a slot (R152, R156). -/
theorem UpLane.reserved_lt_free_iff (u : UpLane) : u.reserved < u.free ↔ u.outbox.length + u.reserved < 32 := by
  rw [UpLane.free, Config.outboxSize]
  omega

theorem UpLane.drop_eq (u : UpLane) :
    u.drop = { u with upDrops := min (u.upDrops + 1) 65535, lost := min (u.lost + 1) 255 } := by
  rw [UpLane.drop, count16_eq_min, satSucc_eq_min, Config.creditMax]

theorem UpLane.offerReply_eq (u : UpLane) (r : Reply) : u.offerReply r = u.afterReply r := by
  simp only [UpLane.offerReply, UpLane.afterReply, UpLane.reserved_lt_free_iff, UpLane.drop_eq]

theorem UpLane.offerNotice_eq (u : UpLane) (address : Nat) (kind : NoticeKind) (payload : List Byte) :
    u.offerNotice address kind payload = u.afterNotice address kind payload := by
  simp only [UpLane.offerNotice, UpLane.afterNotice, UpLane.reserved_lt_free_iff, UpLane.drop_eq]

theorem State.replyUnreserved_eq (s : State) (tag : Half) (code : Byte) (status : Status) (payload : List Byte) :
    s.replyUnreserved tag code status payload
      = { s with up := s.up.afterReply ⟨s.address, tag, code, status, false, none, payload⟩ } := by
  rw [State.replyUnreserved, UpLane.offerReply_eq, State.withUp]

/-! ### Offers of one block (R158) -/

theorem State.offer_eq_if (s : State) (o : Offer) :
    s.offer o = if s.commands.config.mask.getLsbD (noticeNumber o.kind - 1) = true then
      { s with up := s.up.afterNotice s.address o.kind o.payload } else s := by
  rw [State.offer, maskEnables, UpLane.offerNotice_eq, State.withUp]

@[simp] theorem State.afterNotices_nil (s : State) : s.afterNotices [] = s.up := rfl

/-- Offers one behind the other: the second list meets the transmitter as the first leaves it. -/
theorem State.afterNotices_append (s : State) (a b : List Offer) :
    s.afterNotices (a ++ b) = (s.withUp (s.afterNotices a)).afterNotices b := by
  simp only [State.afterNotices, State.enabled, List.filter_append, List.foldl_append, State.withUp_up,
    State.withUp_address, State.withUp_commands]

/-- What offers do rests on the part's address, the notice mask and the transmitter alone. -/
theorem State.afterNotices_congr {s t : State} (haddress : t.address = s.address) (hcommands : t.commands = s.commands)
    (hup : t.up = s.up) (offers : List Offer) : t.afterNotices offers = s.afterNotices offers := by
  rw [State.afterNotices, State.enabled, haddress, hcommands, hup, State.afterNotices, State.enabled]

theorem State.offer_eq_afterNotices (s : State) (o : Offer) : s.offer o = s.withUp (s.afterNotices [o]) := by
  unfold State.offer State.afterNotices State.enabled
  by_cases hmask : maskEnables s.commands.config.mask o.kind = true
  · simp [hmask, UpLane.offerNotice_eq]
  · simp [hmask]

theorem State.offers_eq_afterNotices (os : List Offer) (s : State) : s.offers os = s.withUp (s.afterNotices os) := by
  induction os generalizing s with
  | nil => rfl
  | cons o os ih =>
    have hcons : s.offers (o :: os) = (s.offer o).offers os := rfl
    rw [hcons, ih, s.offer_eq_afterNotices, ← State.afterNotices_append, State.withUp_withUp, List.singleton_append]

/-! ### Orders that keep each block's own (R159) -/

theorem interleaves_cons_iff (blocks : List (List Offer)) (o : Offer) (order : List Offer) :
    interleaves blocks (o :: order) ↔
      ∃ before rest behind, blocks = before ++ (o :: rest) :: behind ∧ interleaves (before ++ rest :: behind) order := by
  constructor
  · rintro ⟨i, rest, hget, horder⟩
    obtain ⟨hi, hblock⟩ := List.getElem?_eq_some_iff.mp hget
    refine ⟨blocks.take i, rest, blocks.drop (i + 1), ?_, ?_⟩
    · rw [← hblock, List.getElem_cons_drop, List.take_append_drop]
    · rwa [List.set_eq_take_append_cons_drop, if_pos hi] at horder
  · rintro ⟨before, rest, behind, rfl, horder⟩
    refine ⟨before.length, rest, ?_, ?_⟩
    · simp
    · simpa using horder

/-- Blocks without offers do not matter for the orders. -/
theorem interleaves_of_filter_eq {a b : List (List Offer)} {order : List Offer}
    (heq : a.filter (fun x => !x.isEmpty) = b.filter (fun x => !x.isEmpty)) (horder : interleaves a order) :
    interleaves b order := by
  induction order generalizing a b with
  | nil =>
    have hnil : a.flatten = [] := horder
    show b.flatten = []
    rw [← List.flatten_filter_not_isEmpty, ← heq, List.flatten_filter_not_isEmpty, hnil]
  | cons o order ih =>
    obtain ⟨before, rest, behind, rfl, hafter⟩ := (interleaves_cons_iff _ o order).mp horder
    rw [List.filter_append, List.filter_cons_of_pos (by rfl)] at heq
    obtain ⟨b1, b2, rfl, hbefore, hrest⟩ := List.filter_eq_append_iff.mp heq.symm
    obtain ⟨b3, b4, rfl, hempty, -, hbehind⟩ := List.filter_eq_cons_iff.mp hrest
    refine (interleaves_cons_iff _ o order).mpr ⟨b1 ++ b3, rest, b4, by simp, ih ?_ hafter⟩
    have hb3 : b3.filter (fun x => !x.isEmpty) = [] := List.filter_eq_nil_iff.mpr hempty
    simp only [List.filter_append, List.filter_cons, hbefore, hb3, hbehind, List.append_nil]

/-- One block behind the other is such an order. -/
theorem interleaves_flatten (blocks : List (List Offer)) : interleaves blocks blocks.flatten := by
  induction blocks with
  | nil => rfl
  | cons block blocks ih =>
    induction block with
    | nil => exact interleaves_of_filter_eq (by simp) ih
    | cons o rest ihrest => exact (interleaves_cons_iff _ _ _).mpr ⟨[], rest, blocks, rfl, ihrest⟩

theorem takeHead_some {blocks : List (List Offer)} {i : Nat} {o : Offer} (h : (takeHead blocks i).1 = some o) :
    ∃ before rest behind, blocks = before ++ (o :: rest) :: behind
      ∧ (takeHead blocks i).2 = before ++ rest :: behind := by
  induction blocks, i using takeHead.induct with
  | case1 => cases h
  | case2 => cases h
  | case3 x xs rest =>
    obtain rfl := Option.some.inj h
    exact ⟨[], xs, rest, rfl, rfl⟩
  | case4 block rest i hne ih =>
    rw [takeHead] at h ⊢
    · obtain ⟨before, tail, behind, hrest, hleft⟩ := ih h
      exact ⟨block :: before, tail, behind, by rw [hrest, List.cons_append], by rw [hleft, List.cons_append]⟩
    all_goals exact hne

theorem takeHead_none {blocks : List (List Offer)} {i : Nat} (h : (takeHead blocks i).1 = none) :
    (takeHead blocks i).2 = blocks := by
  induction blocks, i using takeHead.induct with
  | case1 => rfl
  | case2 => rfl
  | case3 => cases h
  | case4 block rest i hne ih =>
    rw [takeHead] at h ⊢
    · rw [ih h]
    all_goals exact hne

/-! ### Offers of several blocks -/

/-- Each choice takes the next offer of a block that still has one, so the offers reach the outbox in an order that
keeps each block's own. -/
theorem State.offerTogether_order (fuel : Nat) (s : State) (blocks : List (List Offer)) :
    ∃ order n, interleaves blocks order
      ∧ State.offerTogether fuel s blocks = (s.withUp (s.afterNotices order)).withOrderings n := by
  induction fuel generalizing s blocks with
  | zero => exact ⟨blocks.flatten, s.orderings, interleaves_flatten blocks, State.offers_eq_afterNotices _ s⟩
  | succ fuel ih =>
    have hfilter : ∀ order, interleaves (blocks.filter (fun b => !b.isEmpty)) order → interleaves blocks order :=
      fun order => interleaves_of_filter_eq (by rw [List.filter_filter]; simp)
    unfold State.offerTogether
    split
    · next hnone => exact ⟨[], s.orderings, hfilter [] (by rw [hnone]; rfl), rfl⟩
    · next one hone =>
      refine ⟨one, s.orderings, hfilter one ?_, State.offers_eq_afterNotices one s⟩
      have horder := interleaves_flatten [one]
      rw [hone]
      rwa [List.flatten_cons, List.flatten_nil, List.append_nil] at horder
    · next =>
      dsimp only
      split
      · next o hhead =>
        obtain ⟨before, rest, behind, hblocks, hleft⟩ := takeHead_some hhead
        obtain ⟨order, n, horder, heq⟩ := ih ((s.withOrderings (s.orderings + 1)).offer o) (before ++ rest :: behind)
        refine ⟨o :: order, n, hfilter _ ?_, ?_⟩
        · rw [hblocks]
          exact (interleaves_cons_iff _ o order).mpr ⟨before, rest, behind, rfl, horder⟩
        · rw [hleft, heq, State.offer_eq_afterNotices, ← State.afterNotices_append, List.singleton_append]
          rfl
      · next hhead =>
        rw [takeHead_none hhead]
        obtain ⟨order, n, horder, heq⟩ := ih (s.withOrderings (s.orderings + 1)) (blocks.filter (fun b => !b.isEmpty))
        exact ⟨order, n, hfilter order horder, heq⟩

theorem State.offerAll_order (s : State) (blocks : List (List Offer)) :
    ∃ order n, interleaves blocks order
      ∧ s.offerAll blocks = (s.withUp (s.afterNotices order)).withOrderings n :=
  State.offerTogether_order _ s blocks

/-- Offers that come together, seen from a state with the same address and mask from which `first` has already been
offered. -/
theorem State.offerAll_noticed {s u : State} {first : List Offer} (haddress : u.address = s.address)
    (hcommands : u.commands = s.commands) (hup : u.up = s.afterNotices first) (blocks : List (List Offer)) :
    s.noticed (u.offerAll blocks) first blocks := by
  obtain ⟨order, n, horder, heq⟩ := u.offerAll_order blocks
  refine ⟨order, horder, ?_⟩
  rw [heq, State.afterNotices_append]
  exact State.afterNotices_congr (s := s.withUp (s.afterNotices first)) haddress hcommands hup order

/-- Settles O20: the admission rule for one packet, and the orders that the choices between blocks can give. -/
theorem unreservedPacketsNeedFreeRoom : Obligations.UnreservedPacketsNeedFreeRoom := by
  refine ⟨UpLane.offerReply_eq, State.offer_eq_if, fun s blocks => ⟨_, rfl, ?_, State.offerAll_noticed rfl rfl rfl blocks⟩⟩
  obtain ⟨order, n, -, heq⟩ := s.offerAll_order blocks
  rw [heq]
  rfl

end Sys2Proof.Machine
end

/-! PROOFS. Arrival of commands: what the receiver does with an addressed command and with a broadcast (R130 to
R136, R173, R174), the urgent commands (R145, R148, R149), and the reply cache (R142). -/

section
namespace Sys2Proof.Machine

-- one theorem at a time, as in the tests: many threads' stacks at once exceed the check's memory limit
set_option Elab.async false

/-! ### Classification (R130, R131) -/

theorem exec_command_addressed {params : List Byte} {dest : Byte} {s : State} (hlen : params.length ≤ 248)
    (hdest : dest.toNat = s.address) (hmin : 1 ≤ s.address) (hmax : s.address ≤ 30) (time : Nat) (tag : Half)
    (code : Byte) :
    exec (.command time dest tag code params) s = .next (s.takeAddressed time tag code params) := by
  rw [exec, execCommand, if_neg (Nat.not_lt.mpr hlen), if_pos ((s.addressedBy_iff dest).mpr ⟨hdest, hmin, hmax⟩)]

/-- No part has the address 31, so a packet to it is a broadcast. -/
theorem exec_command_broadcast {params : List Byte} (hlen : params.length ≤ 248) (s : State) (time : Nat) (tag : Half)
    (code : Byte) :
    exec (.command time 31 tag code params) s = .next (s.takeBroadcast time tag code params) := by
  have hnot : ¬ s.addressedBy 31 = true := by
    rw [State.addressedBy_iff]
    rintro ⟨h31, -, hmax⟩
    rw [← h31] at hmax
    exact absurd hmax (by decide)
  rw [exec, execCommand, if_neg (Nat.not_lt.mpr hlen), if_neg hnot, if_pos rfl]

/-- The command that a block makes carries the code it was read by. -/
theorem code_of_readRequest {code : Byte} {params : List Byte} {r : Request} (h : readRequest code params = some r) :
    code = requestCode r :=
  ((readRequest_eq_some_iff code params r).mp h).2.1

theorem takeAddressed_unreadable {s : State} {code : Byte} {params : List Byte}
    (h : readRequest code params = none ∨ code = 0x33) (time : Nat) (tag : Half) :
    s.takeAddressed time tag code params = s.replyUnreserved tag code .refusedFormat [byte1 params.length] := by
  unfold State.takeAddressed
  cases hread : readRequest code params with
  | none => rfl
  | some r =>
    have hcode : requestCode r = 0x33 := by
      rw [← code_of_readRequest hread]
      exact h.resolve_left (by simp [hread])
    cases r with
    | enumerate a => rfl
    | _ => exact absurd hcode (by simp [requestCode])

theorem takeAddressed_queued {s : State} {code : Byte} {params : List Byte} {r : Request}
    (hread : readRequest code params = some r) (hclass : requestClass r ≠ .urgent) (time : Nat) (tag : Half) :
    s.takeAddressed time tag code params = s.arriveQueued tag r := by
  unfold State.takeAddressed
  rw [hread]
  cases r with
  | status | cancel | resetPart | enumerate => exact absurd rfl hclass
  | _ => rfl

theorem State.countDrop_eq (s : State) :
    s.countDrop = { s with commands := { s.commands with drops := min (s.commands.drops + 1) 65535 } } := by
  rw [State.countDrop, count16_eq_min, State.withCommands]

theorem takeBroadcast_refused {s : State} {code : Byte} {params : List Byte}
    (h : readRequest code params = none ∨ (code ≠ 0x20 ∧ code ≠ 0x22 ∧ code ≠ 0x32 ∧ code ≠ 0x33)) (time : Nat)
    (tag : Half) :
    s.takeBroadcast time tag code params = s.countDrop.handDown (.command 31 tag code params) := by
  unfold State.takeBroadcast
  cases hread : readRequest code params with
  | none => rfl
  | some r =>
    obtain ⟨h20, h22, h32, h33⟩ := h.resolve_left (by simp [hread])
    have hcode := code_of_readRequest hread
    cases r with
    | commit => exact absurd hcode h20
    | fade => exact absurd hcode h22
    | resetPart => exact absurd hcode h32
    | enumerate => exact absurd hcode h33
    | _ => rfl

/-- Settles O21: an addressed command without a meaning is refused, a broadcast without one is counted and goes on. -/
theorem formatFailuresDoNothingElse : Obligations.FormatFailuresDoNothingElse := by
  refine ⟨fun time dest tag code params s hlen hdest hmin hmax h => ?_, fun time tag code params s hlen h => ?_⟩
  · rw [exec_command_addressed hlen hdest hmin hmax, takeAddressed_unreadable h, State.replyUnreserved_eq, byte1]
  · rw [exec_command_broadcast hlen, takeBroadcast_refused h, State.countDrop_eq]
    rfl

/-! ### Pending tags and the reply cache (R134, R135) -/

theorem CommandUnit.hasTag_iff (c : CommandUnit) (tag : Half) :
    c.hasTag tag = true ↔ ∃ e ∈ c.queue, e.origin = .addressed tag := by
  simp [CommandUnit.hasTag]

theorem StoreWriter.hasTag_iff (w : StoreWriter) (tag : Half) :
    w.hasTag tag = true ↔ (∃ j ∈ w.jobs, j.tag = tag) ∨ ∃ run, w.running = some run ∧ run.tag = tag := by
  simp [StoreWriter.hasTag, Option.any_eq_true]

theorem State.pendingLocation_queue {s : State} {tag : Half} (h : ∃ e ∈ s.commands.queue, e.origin = .addressed tag) :
    s.pendingLocation tag = some 0 := by
  rw [State.pendingLocation, if_pos ((s.commands.hasTag_iff tag).mpr h)]

theorem State.pendingLocation_writer {s : State} {tag : Half} (hqueue : ∀ e ∈ s.commands.queue, e.origin ≠ .addressed tag)
    (h : (∃ j ∈ s.writer.jobs, j.tag = tag) ∨ ∃ run, s.writer.running = some run ∧ run.tag = tag) :
    s.pendingLocation tag = some 1 := by
  have hnot : ¬ s.commands.hasTag tag = true := by
    rw [CommandUnit.hasTag_iff]
    rintro ⟨e, he, horigin⟩
    exact hqueue e he horigin
  rw [State.pendingLocation, if_neg hnot, if_pos ((s.writer.hasTag_iff tag).mpr h)]

theorem State.pendingLocation_eq_none_iff (s : State) (tag : Half) :
    s.pendingLocation tag = none ↔ ¬ s.hasPending tag := by
  rw [State.hasPending, ← StoreWriter.hasTag_iff, ← CommandUnit.hasTag_iff, State.pendingLocation]
  cases s.commands.hasTag tag <;> cases s.writer.hasTag tag <;> simp

/-- With distinct tags the cache holds at most one entry of a tag, so the search finds it. -/
theorem CommandUnit.cached_of_mem {c : CommandUnit} {e : CacheEntry} (hdistinct : cacheTagsDistinct c.cache)
    (hmem : e ∈ c.cache) : c.cached e.tag e.code = some e := by
  obtain ⟨f, hf⟩ := Option.isSome_iff_exists.mp
    (List.find?_isSome (p := fun x => decide (x.tag = e.tag ∧ x.code = e.code)).mpr ⟨e, hmem, by simp⟩)
  have hfound := List.find?_some hf
  rw [decide_eq_true_eq] at hfound
  rw [CommandUnit.cached, hf, List.inj_on_of_nodup_map hdistinct.1 (List.mem_of_find?_eq_some hf) hmem hfound.1]

theorem CommandUnit.cached_eq_none {c : CommandUnit} {tag : Half} {code : Byte}
    (h : ∀ e ∈ c.cache, ¬ (e.tag = tag ∧ e.code = code)) : c.cached tag code = none :=
  List.find?_eq_none.mpr fun e he => by simpa using h e he

theorem State.arriveQueued_pending {s : State} {tag : Half} {location : Byte} (htag : tag ≠ 0)
    (hlocation : s.pendingLocation tag = some location) (r : Request) :
    s.arriveQueued tag r = s.replyUnreserved tag (requestCode r) .refusedTag [location] := by
  rw [State.arriveQueued, if_neg htag, hlocation]

theorem State.arriveQueued_cached {s : State} {tag : Half} {r : Request} {e : CacheEntry} (htag : tag ≠ 0)
    (hpending : s.pendingLocation tag = none) (hcached : s.commands.cached tag (requestCode r) = some e) :
    s.arriveQueued tag r = s.replay e := by
  rw [State.arriveQueued, if_neg htag, hpending]
  simp only [hcached]

theorem State.arriveQueued_new {s : State} {tag : Half} {r : Request}
    (hnew : tag = 0 ∨ (s.pendingLocation tag = none ∧ s.commands.cached tag (requestCode r) = none)) :
    s.arriveQueued tag r = s.acceptQueued tag r := by
  rw [State.arriveQueued]
  split
  · rfl
  · next htag =>
    obtain ⟨hpending, hcached⟩ := hnew.resolve_left htag
    simp only [hpending, hcached]

/-- Settles O22: a pending tag is found before the cache is looked at, and neither way queues the command. -/
theorem retransmissionsAreNotExecuted : Obligations.RetransmissionsAreNotExecuted := by
  refine ⟨fun time dest tag code params r s hlen hdest hmin hmax hread hclass htag => ?_,
    fun time dest tag code params r c s hlen hdest hmin hmax hread hclass htag hpending hdistinct hmem hctag hccode => ?_⟩
  all_goals
    obtain rfl := code_of_readRequest hread
    rw [exec_command_addressed hlen hdest hmin hmax, takeAddressed_queued hread hclass]
  · refine ⟨fun hqueue => ?_, fun hqueue hwriter => ?_⟩
    · rw [State.arriveQueued_pending htag (State.pendingLocation_queue hqueue), State.replyUnreserved_eq]
    · rw [State.arriveQueued_pending htag (State.pendingLocation_writer hqueue hwriter), State.replyUnreserved_eq]
  · have hcached : s.commands.cached tag (requestCode r) = some c := by
      rw [← hctag, ← hccode]
      exact CommandUnit.cached_of_mem hdistinct hmem
    rw [State.arriveQueued_cached htag ((s.pendingLocation_eq_none_iff tag).mpr hpending) hcached, State.replay,
      UpLane.offerReply_eq, hctag, hccode, State.withUp]

/-! ### Acceptance (R136, R154) -/

theorem State.acceptQueued_full {s : State} (hfull : 16 ≤ s.commands.queue.length) (tag : Half) (r : Request) :
    s.acceptQueued tag r = s.countDrop.replyUnreserved tag (requestCode r) .refusedFull [] := by
  rw [State.acceptQueued, if_pos (show Config.queueSize ≤ _ from hfull)]

theorem State.acceptQueued_granted {s : State} (hroom : s.commands.queue.length < 16)
    (hfree : s.up.outbox.length + s.up.reserved < 32) (tag : Half) (r : Request) :
    s.acceptQueued tag r
      = (s.withUp { s.up with reserved := s.up.reserved + 1 }).enqueue ⟨.addressed tag, r⟩ := by
  have hgrants : s.up.grants = true := decide_eq_true (s.up.reserved_lt_free_iff.mpr hfree)
  rw [State.acceptQueued, if_neg (show ¬ Config.queueSize ≤ _ from Nat.not_le.mpr hroom), if_pos hgrants]

theorem State.acceptQueued_lost {s : State} (hroom : s.commands.queue.length < 16)
    (hnone : 32 ≤ s.up.outbox.length + s.up.reserved) (tag : Half) (r : Request) :
    s.acceptQueued tag r = s.withUp s.up.drop := by
  have hgrants : ¬ s.up.grants = true := by
    rw [UpLane.grants, decide_eq_true_eq, UpLane.reserved_lt_free_iff]
    omega
  rw [State.acceptQueued, if_neg (show ¬ Config.queueSize ≤ _ from Nat.not_le.mpr hroom), if_neg hgrants]

/-- Settles O23: the two tests of `acceptQueued`, for a command that no tag check stops. -/
theorem acceptanceNeedsQueueAndReservation : Obligations.AcceptanceNeedsQueueAndReservation := by
  intro time dest tag code params r s hlen hdest hmin hmax hread hclass hnew
  obtain rfl := code_of_readRequest hread
  have hnew' : tag = 0 ∨ (s.pendingLocation tag = none ∧ s.commands.cached tag (requestCode r) = none) :=
    hnew.imp_right fun ⟨hpending, hcache⟩ =>
      ⟨(s.pendingLocation_eq_none_iff tag).mpr hpending, CommandUnit.cached_eq_none hcache⟩
  rw [exec_command_addressed hlen hdest hmin hmax, takeAddressed_queued hread hclass, State.arriveQueued_new hnew']
  refine ⟨fun hfull => ?_, fun hroom hfree => ?_, fun hroom hnone => ?_⟩
  · rw [State.acceptQueued_full hfull, State.countDrop_eq, State.replyUnreserved_eq]
  · rw [State.acceptQueued_granted hroom hfree]
    rfl
  · rw [State.acceptQueued_lost hroom hnone, UpLane.drop_eq, State.withUp]

/-! ### Broadcasts (R132, R173, R174) -/

theorem State.enqueueBroadcast_of_room {s : State} (hroom : s.commands.queue.length < 16) (r : Request) :
    s.enqueueBroadcast r = s.enqueue ⟨.broadcast, r⟩ := by
  rw [State.enqueueBroadcast, if_pos (show _ < Config.queueSize from hroom)]

theorem State.enqueueBroadcast_of_full {s : State} (hfull : 16 ≤ s.commands.queue.length) (r : Request) :
    s.enqueueBroadcast r = s.countDrop := by
  rw [State.enqueueBroadcast, if_neg (show ¬ _ < Config.queueSize from Nat.not_lt.mpr hfull)]

theorem takeBroadcast_queued {s : State} {code : Byte} {params : List Byte} {r : Request}
    (hread : readRequest code params = some r) (hr : r = .commit ∨ ∃ target frames, r = .fade target frames)
    (time : Nat) (tag : Half) :
    s.takeBroadcast time tag code params = (s.enqueueBroadcast r).handDown (.command 31 tag code params) := by
  unfold State.takeBroadcast
  rw [hread]
  rcases hr with rfl | ⟨target, frames, rfl⟩ <;> rfl

/-- COMMIT has no parameters and FADE three bytes. -/
theorem length_le_of_queuedBroadcast {code : Byte} {params : List Byte} {r : Request}
    (hread : readRequest code params = some r) (hr : r = .commit ∨ ∃ target frames, r = .fade target frames) :
    params.length ≤ 248 := by
  obtain ⟨-, -, rfl⟩ := (readRequest_eq_some_iff code params r).mp hread
  rcases hr with rfl | ⟨target, frames, rfl⟩
  · exact Nat.zero_le _
  · exact (by decide : 3 ≤ 248)

theorem exec_enumerate (time : Nat) (tag : Half) (a : Byte) (s : State) :
    exec (.command time 31 tag 0x33 [a]) s
      = .next ((s.takeEnumerate tag a).handDown (.command 31 tag 0x33 [forwardedParameter a])) :=
  exec_command_broadcast (params := [a]) (by decide : 1 ≤ 248) s time tag 0x33

theorem identity_eq (address : Nat) :
    identity address = [0x45, 0x18, 0x40, 3, 0x04, 0x00, 0x00, 8, 4, byte1 address] := rfl

/-- Settles O24: a queued broadcast by the room in the queue, and ENUMERATE by the three ranges of its parameter. -/
theorem broadcastsActAndPassOn : Obligations.BroadcastsActAndPassOn := by
  refine ⟨fun time tag code params r s hread hr => ?_, fun time tag a s => ?_⟩
  · rw [exec_command_broadcast (length_le_of_queuedBroadcast hread hr), takeBroadcast_queued hread hr]
    refine ⟨fun hroom => ?_, fun hfull => ?_⟩
    · rw [State.enqueueBroadcast_of_room hroom]
      rfl
    · rw [State.enqueueBroadcast_of_full hfull, State.countDrop_eq]
      rfl
  · rw [exec_enumerate, State.takeEnumerate, forwardedParameter]
    refine ⟨fun hmin hmax => ?_, fun h31 => ?_, fun hout => ?_⟩
    · rw [if_pos ⟨hmin, hmax⟩, if_pos ⟨hmin, hmax⟩, identity_eq, byte1_toNat, State.replyUnreserved_eq]
      rfl
    · subst h31
      rw [if_neg (by decide : ¬ (1 ≤ (31 : Byte).toNat ∧ (31 : Byte).toNat ≤ 30)),
        if_pos (by decide : (31 : Byte).toNat = 31),
        if_neg (by decide : ¬ (1 ≤ (31 : Byte).toNat ∧ (31 : Byte).toNat ≤ 30)), identity_eq, State.replyUnreserved_eq]
      rfl
    · have hsmall : ¬ (1 ≤ a.toNat ∧ a.toNat ≤ 30) := by
        rcases hout with rfl | hbig
        · decide
        · omega
      have hnot31 : ¬ a.toNat = 31 := by
        rcases hout with rfl | hbig
        · decide
        · omega
      rw [if_neg hsmall, if_neg hsmall, if_neg hnot31]
      rfl

/-! ### STATUS (R145, R146) -/

theorem exec_status {dest : Byte} {s : State} (hdest : dest.toNat = s.address) (hmin : 1 ≤ s.address)
    (hmax : s.address ≤ 30) (time : Nat) (tag : Half) {params : List Byte} {flag : Option Byte}
    (hread : readStatus params = some (.status flag)) :
    exec (.command time dest tag 0x30 params) s = .next (s.takeStatus tag flag) := by
  have hread' : readRequest 0x30 params = some (.status flag) := hread
  have hlen : params.length ≤ 248 := by
    obtain ⟨-, -, rfl⟩ := (readRequest_eq_some_iff 0x30 params _).mp hread'
    cases flag <;> simp [requestParams]
  rw [exec_command_addressed hlen hdest hmin hmax, State.takeAddressed, hread']

/-- Settles O25: the reading is `statusPayload`, taken before the counters are cleared. -/
theorem statusReportsAndClears : Obligations.StatusReportsAndClears := by
  intro time dest tag s hdest hmin hmax report
  have hreport : s.statusPayload = report := by
    simp only [State.statusPayload, State.writerStateByte, State.clearing, decide_eq_true_eq]
    rfl
  refine ⟨fun params hparams => ?_, ?_, fun f hnot0 hnot1 => ?_⟩
  · rcases hparams with rfl | rfl
    · rw [exec_status hdest hmin hmax time tag (params := []) (flag := none) rfl, State.takeStatus,
        State.replyUnreserved_eq, hreport]
    · rw [exec_status hdest hmin hmax time tag (params := [0]) (flag := some 0) rfl, State.takeStatus,
        if_pos rfl, State.replyUnreserved_eq, hreport]
  · rw [exec_status hdest hmin hmax time tag (params := [1]) (flag := some 1) rfl, State.takeStatus,
      if_neg (by decide), if_pos rfl, State.replyUnreserved_eq, hreport]
    rfl
  · rw [exec_status hdest hmin hmax time tag (params := [f]) (flag := some f) rfl, State.takeStatus,
      if_neg hnot0, if_neg hnot1, State.replyUnreserved_eq]

/-! ### CANCEL (R97, R98, R148) -/

/-- The reply of a job that has ended (R96). -/
def jobReply (address : Nat) (tag : Half) (code : Byte) (e : Ending) : Reply :=
  ⟨address, tag, code, e.status, false, e.cursor, e.payload⟩

/-- The reply cache after a reserved reply (R142). -/
def cacheAfter (cache : List CacheEntry) (r : Reply) : List CacheEntry :=
  if r.tag = 0 then cache else cacheInsert cache ⟨r.tag, r.code, r.status, r.cursor, r.payload⟩

/-- The part after reserved replies, in order. -/
def State.answerJobs (s : State) (replies : List Reply) : State :=
  { s with
    commands := { s.commands with cache := replies.foldl cacheAfter s.commands.cache }
    up := { s.up with
      outbox := s.up.outbox ++ replies.map .reply
      reserved := s.up.reserved - replies.length } }

theorem State.answerJobs_nil (s : State) : s.answerJobs [] = s := by
  simp only [State.answerJobs, List.foldl_nil, List.map_nil, List.append_nil, List.length_nil, Nat.sub_zero]

theorem State.answerJobs_append (s : State) (a b : List Reply) :
    s.answerJobs (a ++ b) = (s.answerJobs a).answerJobs b := by
  simp only [State.answerJobs, List.foldl_append, List.map_append, List.append_assoc, List.length_append, Nat.sub_sub]

theorem State.endJob_eq (s : State) (tag : Half) (code : Byte) (e : Ending) :
    s.endJob tag code e = s.answerJobs [jobReply s.address tag code e] := by
  unfold State.endJob State.replyReserved CommandUnit.remember State.answerJobs
  simp only [List.foldl_cons, List.foldl_nil, cacheAfter, jobReply]
  by_cases htag : tag = 0
  · simp only [htag, ↓reduceIte]
    rfl
  · simp only [htag, ↓reduceIte]
    rfl

/-- The CANCELLED reply of a waiting job. -/
def waitingReply (address : Nat) (j : Job) : Reply :=
  jobReply address j.tag (workCode j.work) (cancelledWaiting j.work)

theorem State.cancelWaiting_eq (s : State) (jobs : List Job) :
    s.cancelWaiting jobs = s.answerJobs (jobs.map (waitingReply s.address)) := by
  induction jobs generalizing s with
  | nil => exact s.answerJobs_nil.symm
  | cons j rest ih =>
    have hcons : s.cancelWaiting (j :: rest)
        = (s.endJob j.tag (workCode j.work) (cancelledWaiting j.work)).cancelWaiting rest := rfl
    rw [hcons, ih, State.endJob_eq, ← State.answerJobs_append]
    rfl

/-- The CANCELLED reply of the running job, if one runs. -/
def runningReplies (address : Nat) (w : StoreWriter) : List Reply :=
  match w.running with
  | some r => [jobReply address r.tag (progressCode r.progress) (cancelledRunning w.cursor r.progress)]
  | none => []

theorem State.cancelJobs_eq (s : State) :
    s.cancelJobs = (s.withWriter { s.writer with jobs := [], running := none }).answerJobs
      (runningReplies s.address s.writer ++ s.writer.jobs.map (waitingReply s.address)) := by
  rw [State.answerJobs_append, State.cancelJobs, runningReplies]
  cases s.writer.running with
  | none => rw [State.cancelWaiting_eq, State.answerJobs_nil, State.withWriter_address]
  | some r =>
    dsimp only
    rw [State.cancelWaiting_eq, State.endJob_eq, State.withWriter_address]
    rfl

/-- Settles O26: the jobs' replies in the order of `cancelJobs`, each as its work's kind gives it. -/
theorem cancelEndsEveryJob : Obligations.CancelEndsEveryJob := by
  intro time dest tag s hdest hmin hmax running waiting remembered
  have hrunning : running = runningReplies s.address s.writer := by
    rw [runningReplies]
    rcases hrun : s.writer.running with _ | ⟨t, _ | _ | _⟩ <;> simp only [running, hrun] <;> rfl
  have hwaiting : waiting = s.writer.jobs.map (waitingReply s.address) := by
    refine List.map_congr_left fun j _ => ?_
    obtain ⟨t, _ | _ | _ | _⟩ := j <;> rfl
  rw [exec_command_addressed (params := []) (Nat.zero_le _) hdest hmin hmax]
  have htake : s.takeAddressed time tag 0x31 [] = s.takeCancel tag := rfl
  rw [htake, State.takeCancel, State.cancelJobs_eq, ← hrunning, ← hwaiting, State.replyUnreserved_eq]
  rfl

/-! ### RESET-PART (R149) -/

theorem exec_lossTimerExpiry (time : Nat) (s : State) :
    exec (.lossTimerExpiry time) s = .next (s.compareLossTimer time) := by
  rw [exec, execLossTimerExpiry, State.compareLossTimer]
  split <;> rfl

theorem State.lossDue_eq_false {s : State} {time ms : Nat} (hinterval : s.commands.config.lossInterval = ms)
    (hquiet : ∀ t0, s.tracker.lossStart = some t0 → time < t0 + ms * 1000) :
    s.lossDue time = false := by
  rw [State.lossDue, hinterval]
  split
  · next t0 hstart => exact decide_eq_false (Nat.not_le.mpr (hquiet t0 hstart))
  · rfl

theorem State.compareLossTimer_quiet {s : State} {time ms : Nat} (hinterval : s.commands.config.lossInterval = ms)
    (hquiet : ∀ t0, s.tracker.lossStart = some t0 → time < t0 + ms * 1000) :
    s.compareLossTimer time = s := by
  rw [State.compareLossTimer, State.lossDue_eq_false hinterval hquiet]
  rfl

/-- Settles O27: RESET-PART's own effect first, then the comparison that LOSS_TIMER_EXPIRY makes. -/
theorem resetPartResetsTheBlocks : Obligations.ResetPartResetsTheBlocks := by
  intro time tag s r addressed broadcast quiet
  have haddressed : s.resetPart.replyUnreserved tag 0x32 .done [] = addressed := rfl
  have hbroadcast : s.resetPart.handDown (.command 31 tag 0x32 []) = broadcast := rfl
  have hafter (dest : Byte) (hdest : dest.toNat = s.address) (hmin : 1 ≤ s.address) (hmax : s.address ≤ 30) :
      exec (.command time dest tag 0x32 []) s = .next (addressed.compareLossTimer time) := by
    rw [exec_command_addressed (params := []) (Nat.zero_le _) hdest hmin hmax, ← haddressed]
    rfl
  have hforward : exec (.command time 31 tag 0x32 []) s = .next (broadcast.compareLossTimer time) := by
    rw [exec_command_broadcast (params := []) (Nat.zero_le _), ← hbroadcast]
    rfl
  have hms (hquiet : quiet) (t0 : Nat) (hstart : s.tracker.lossStart = some t0) : time < t0 + 100 * 1000 := by
    have hlt := hquiet t0 hstart
    omega
  refine ⟨fun dest hdest hmin hmax => ⟨?_, fun hquiet => ?_⟩, ?_, fun hquiet => ?_⟩
  · rw [hafter dest hdest hmin hmax, exec_lossTimerExpiry]
  · rw [hafter dest hdest hmin hmax, State.compareLossTimer_quiet (s := addressed) rfl (hms hquiet)]
  · rw [hforward, exec_lossTimerExpiry]
  · rw [hforward, State.compareLossTimer_quiet (s := broadcast) rfl (hms hquiet)]

/-! ### The reply cache (R142) -/

theorem length_filter_tag_lt_iff (cache : List CacheEntry) (tag : Half) :
    (cache.filter (fun c => decide (c.tag ≠ tag))).length < cache.length ↔ ∃ c ∈ cache, c.tag = tag := by
  rw [List.length_filter_lt_length_iff_exists]
  simp

theorem cacheInsert_of_tag {cache : List CacheEntry} {e : CacheEntry} (h : ∃ c ∈ cache, c.tag = e.tag) :
    cacheInsert cache e = cache.filter (fun c => decide (c.tag ≠ e.tag)) ++ [e] :=
  if_pos ((length_filter_tag_lt_iff cache e.tag).mpr h)

/-- No entry has the tag: the cache grows while it has room. -/
theorem cacheInsert_of_room {cache : List CacheEntry} {e : CacheEntry} (h : ∀ c ∈ cache, c.tag ≠ e.tag)
    (hroom : cache.length < 8) : cacheInsert cache e = cache ++ [e] := by
  have hnew : ¬ ∃ c ∈ cache, c.tag = e.tag := fun ⟨c, hc, htag⟩ => h c hc htag
  rw [cacheInsert, if_neg (mt (length_filter_tag_lt_iff cache e.tag).mp hnew),
    if_pos (show cache.length < Config.cacheSize from hroom)]

/-- No entry has the tag and the cache is full: the oldest entry makes room. -/
theorem cacheInsert_of_full {cache : List CacheEntry} {e : CacheEntry} (h : ∀ c ∈ cache, c.tag ≠ e.tag)
    (hfull : cache.length = 8) : cacheInsert cache e = cache.tail ++ [e] := by
  have hnew : ¬ ∃ c ∈ cache, c.tag = e.tag := fun ⟨c, hc, htag⟩ => h c hc htag
  rw [cacheInsert, if_neg (mt (length_filter_tag_lt_iff cache e.tag).mp hnew), hfull, Config.cacheSize,
    if_neg (by omega), List.drop_one]

/-- Settles O28: the three cases of `cacheInsert`, with the laws that it keeps length and tags. -/
theorem replyCacheKeepsNewestOfEachTag : Obligations.ReplyCacheKeepsNewestOfEachTag :=
  fun cache e hlen hdistinct htag =>
    ⟨cacheInsert_of_tag, cacheInsert_of_full, cacheInsert_of_room, cacheInsert_length cache e hlen,
      cacheInsert_distinct cache e hdistinct htag⟩

end Sys2Proof.Machine
end

/-! PROOFS. The head of the command queue: which steps take it (R138, R139), what does not happen while it is held
or a step is not due (R74, R87), and what a command that completes leaves behind (R140). -/

section
namespace Sys2Proof.Machine

-- one theorem at a time, as in the tests: many threads' stacks at once exceed the check's memory limit
set_option Elab.async false

/-! ### Taking the head -/

/-- What taking a queue entry at a time does; a store command that was broadcast has no reply to give and is not
taken. -/
def State.takeEntry (s : State) (time : Nat) (e : Entry) : State :=
  match e.request, e.origin with
  | .paneSet p, _ => s.paneSet e p
  | .paneState select on, _ => s.paneState e select on
  | .paneScroll p, _ => s.paneScroll e p
  | .paletteLoad first entries, _ => s.paletteLoad e first entries
  | .markerSet slot line action, _ => s.markerSet e slot line action
  | .backgroundSet c, _ => s.backgroundSet e c
  | .window p, .addressed tag => s.handOver tag (.window p)
  | .write runs, .addressed tag => s.handOver tag (.write runs)
  | .fill value, .addressed tag => s.handOver tag (.fill value)
  | .read count, .addressed tag => s.handOver tag (.read count)
  | .commit, _ => s.commit e
  | .discard, _ => s.discard e
  | .fade target frames, _ => s.beginFade e target frames
  | .config freeRun interval mask, _ => s.configure time e freeRun interval mask
  | .queryPane pane, _ => s.queryPane e pane
  | .queryPalette first count copy, _ => s.queryPalette e first count copy
  | .identify, _ => s.identify e
  | _, _ => s

/-- The time that a step at the queue head reads. -/
def headTime : Instr → Nat
  | .config time => time
  | _ => 0

/-- A step at the queue head takes the head that is due, if the head is its command, and else changes nothing. -/
def State.takeHead (s : State) (c : Instr) : State :=
  match s.readyHead with
  | some e => if executes c e.request = true then s.takeEntry (headTime c) e else s
  | none => s

/-- The seventeen steps at the queue head, each against every command that can stand there. -/
theorem exec_head {c : Instr} (hc : runsAtHead c = true) (s : State) : exec c s = .next (s.takeHead c) := by
  cases c with
  | paneSet | paneState | paneScroll | paletteLoad | markerSet | backgroundSet | window | write | fill | read | commit
  | discard | fade | config | queryPane | queryPalette | identify =>
    simp only [exec, execPaneSet, execPaneState, execPaneScroll, execPaletteLoad, execMarkerSet, execBackgroundSet,
      execWindow, execWrite, execFill, execRead, execCommit, execDiscard, execFade, execConfig, execQueryPane,
      execQueryPalette, execIdentify, State.takeHead]
    rcases s.readyHead with _ | ⟨o, r⟩
    · rfl
    · cases r <;> cases o <;> rfl
  | _ => cases hc

theorem runsAtHead_of_executes {c : Instr} {r : Request} (h : executes c r = true) : runsAtHead c = true := by
  cases c with
  | paneSet | paneState | paneScroll | paletteLoad | markerSet | backgroundSet | window | write | fill | read | commit
  | discard | fade | config | queryPane | queryPalette | identify => rfl
  | _ => cases h

theorem State.takeHead_of_not_ready {s : State} (hnone : s.readyHead = none) (c : Instr) : s.takeHead c = s := by
  rw [State.takeHead, hnone]

theorem State.takeHead_of_ready {s : State} {c : Instr} {e : Entry} (hready : s.readyHead = some e)
    (hexec : executes c e.request = true) : s.takeHead c = s.takeEntry (headTime c) e := by
  simp only [State.takeHead, hready, hexec, ↓reduceIte]

/-- A step whose command is not the head changes nothing, be the head due or held. -/
theorem State.takeHead_of_other {s : State} {c : Instr}
    (hother : ∀ e rest, s.commands.queue = e :: rest → executes c e.request = false) : s.takeHead c = s := by
  cases hready : s.readyHead with
  | none => exact State.takeHead_of_not_ready hready c
  | some e =>
    obtain ⟨-, rest, hqueue⟩ := s.readyHead_some e hready
    simp only [State.takeHead, hready, hother e rest hqueue, Bool.false_eq_true, ↓reduceIte]

/-- A staging command at a head that is not held is taken. -/
theorem exec_staging_head {c : Instr} {s : State} {e : Entry} {rest : List Entry}
    (hqueue : s.commands.queue = e :: rest) (hexec : executes c e.request = true)
    (hclass : requestClass e.request = .staging) (hcommit : s.commitPending = false) :
    exec c s = .next (s.takeEntry (headTime c) e) := by
  have hready : s.readyHead = some e := by
    rw [s.readyHead_staging e rest hqueue hclass, hcommit]
    rfl
  rw [exec_head (runsAtHead_of_executes hexec), State.takeHead_of_ready hready hexec]

/-- A store command at a head that is not held is taken. -/
theorem exec_store_head {c : Instr} {s : State} {e : Entry} {rest : List Entry}
    (hqueue : s.commands.queue = e :: rest) (hexec : executes c e.request = true)
    (hclass : requestClass e.request = .store) (hroom : s.writer.jobs.length < 4) :
    exec c s = .next (s.takeEntry (headTime c) e) := by
  have hready : s.readyHead = some e := by
    rw [s.readyHead_store e rest hqueue hclass, if_pos hroom]
  rw [exec_head (runsAtHead_of_executes hexec), State.takeHead_of_ready hready hexec]

/-- Any other queued command at the head is taken: nothing holds it. -/
theorem exec_other_head {c : Instr} {s : State} {e : Entry} {rest : List Entry}
    (hqueue : s.commands.queue = e :: rest) (hexec : executes c e.request = true)
    (hclass : requestClass e.request = .other) : exec c s = .next (s.takeEntry (headTime c) e) := by
  rw [exec_head (runsAtHead_of_executes hexec), State.takeHead_of_ready (s.readyHead_other e rest hqueue hclass) hexec]

/-! ### What does not happen (R74, R87, R90, R114, R118) -/

/-- A staging command is held by a pending commit, a store command by 4 waiting jobs. -/
theorem State.readyHead_eq_none_of_held {s : State} {e : Entry} {rest : List Entry}
    (hqueue : s.commands.queue = e :: rest)
    (hheld : (requestClass e.request = .staging ∧ s.commitPending = true)
      ∨ (requestClass e.request = .store ∧ 4 ≤ s.writer.jobs.length)) : s.readyHead = none := by
  rcases hheld with ⟨hclass, hcommit⟩ | ⟨hclass, hjobs⟩
  · rw [s.readyHead_staging e rest hqueue hclass, hcommit]
    rfl
  · rw [s.readyHead_store e rest hqueue hclass, if_neg (Nat.not_lt.mpr hjobs)]

theorem State.clearing_iff (s : State) : s.clearing = true ↔ s.store.progress < 262144 := by
  rw [State.clearing, decide_eq_true_eq, Config.storeEntries]

theorem State.clearing_eq_false_iff (s : State) : s.clearing = false ↔ 262144 ≤ s.store.progress := by
  rw [← Bool.not_eq_true, State.clearing_iff, Nat.not_lt]

theorem State.working_iff (s : State) :
    s.working = true ↔ s.store.progress < 262144 ∨ s.writer.running ≠ none := by
  rw [State.working, Bool.or_eq_true, State.clearing_iff, Option.isSome_iff_ne_none]

theorem exec_paceStep_of_undue {s : State} (h : ¬ s.working = true ∨ s.writer.allowance = 0) :
    exec .paceStep s = .next s := by
  rw [exec, execPaceStep, if_neg]
  rintro ⟨hworking, hallowance⟩
  exact h.elim (fun hn => hn hworking) (fun hzero => by omega)

theorem Generator.slotEnded_iff (g : Generator) (lines time : Nat) :
    g.slotEnded lines time = true
      ↔ g.start * (lines + g.blanks) + (g.slot + 1) * g.period ≤ time * (lines + g.blanks) :=
  decide_eq_true_iff

theorem exec_internalActiveLine_of_undue {s : State} {time : Nat}
    (h : ∀ g, s.tracker.generator = some g → g.slot < s.tracker.frame.lines.getD 0 →
      g.slotEnded (s.tracker.frame.lines.getD 0) time = true → False) :
    exec (.internalActiveLine time) s = .next s := by
  rw [exec, execInternalActiveLine]
  split
  · next g hg => exact if_neg fun hdue => h g hg hdue.1 hdue.2
  · rfl

theorem exec_internalBlankingLine_of_undue {s : State} {time : Nat}
    (h : ∀ g, s.tracker.generator = some g → s.tracker.frame.lines.getD 0 ≤ g.slot →
      g.slotEnded (s.tracker.frame.lines.getD 0) time = true → False) :
    exec (.internalBlankingLine time) s = .next s := by
  rw [exec, execInternalBlankingLine]
  split
  · next g hg => exact if_neg fun hdue => h g hg hdue.1 hdue.2.2
  · rfl

/-- Settles O29: a held head is not due, and each step that is not due fails its own test. -/
theorem heldOrUndueStepsChangeNothing : Obligations.HeldOrUndueStepsChangeNothing := by
  refine ⟨fun c s e rest hqueue hexec hheld => ?_, fun c s hc hother => ?_, fun s h => ?_, fun time s hquiet => ?_,
    fun time s hearly => ⟨?_, ?_⟩, fun time s g hg => ⟨fun hblank => ?_, fun hactive => ?_⟩,
    fun bytes p s hgood => exec_badPacket_of_good hgood s⟩
  · rw [exec_head (runsAtHead_of_executes hexec),
      State.takeHead_of_not_ready (State.readyHead_eq_none_of_held hqueue hheld)]
  · rw [exec_head hc, State.takeHead_of_other hother]
  · refine exec_paceStep_of_undue (h.imp_left fun ⟨hcleared, hidle⟩ => ?_)
    rw [State.working_iff, hidle]
    exact not_or.mpr ⟨Nat.not_lt.mpr hcleared, not_not.mpr rfl⟩
  · rw [exec_lossTimerExpiry, State.compareLossTimer_quiet rfl hquiet]
  · exact exec_internalActiveLine_of_undue fun g hg _ hended =>
      absurd ((g.slotEnded_iff _ time).mp hended) (Nat.not_le.mpr (hearly g hg))
  · exact exec_internalBlankingLine_of_undue fun g hg _ hended =>
      absurd ((g.slotEnded_iff _ time).mp hended) (Nat.not_le.mpr (hearly g hg))
  · refine exec_internalActiveLine_of_undue fun g' hg' hactive _ => ?_
    obtain rfl := Option.some.inj (hg.symm.trans hg')
    omega
  · refine exec_internalBlankingLine_of_undue fun g' hg' hblank _ => ?_
    obtain rfl := Option.some.inj (hg.symm.trans hg')
    omega

/-! ### Completing (R138, R140) -/

/-- A command that completes changes the command unit and the up-lane transmitter alone. -/
theorem State.complete_eq (s : State) (e : Entry) (status : Status) (payload : List Byte) :
    s.complete e status payload = { s with
      commands := (s.complete e status payload).commands, up := (s.complete e status payload).up } := by
  obtain ⟨_ | _, r⟩ := e <;> rfl

/-- A completed command is answered, whatever it did to the other blocks before. -/
theorem State.complete_answered {s u : State} (haddress : u.address = s.address) (hcommands : u.commands = s.commands)
    (hup : u.up = s.up) (e : Entry) (status : Status) (payload : List Byte) :
    s.answered (u.complete e status payload) e status none payload := by
  obtain ⟨_ | _, r⟩ := e
  · refine ⟨?_, ?_⟩
    · simp only [State.complete, State.replyReserved_up, State.popQueue_up, State.popQueue_address, haddress, hup]
    · simp only [State.complete, State.replyReserved, State.popQueue, CommandUnit.remember, State.withCommands_commands,
        hcommands]
      split <;> rfl
  · refine ⟨?_, ?_⟩
    · simp only [State.complete, State.popQueue_up, hup]
    · simp only [State.complete, State.popQueue, State.withCommands_commands, hcommands]

/-! ### The first failed check -/

@[simp] theorem firstFailed_nil : firstFailed [] = none := rfl

@[simp] theorem firstFailed_cons (b : Bool) (bs : List Bool) :
    firstFailed (b :: bs) = if b = true then some 1 else (firstFailed bs).map (· + 1) := by
  cases b with
  | true => rfl
  | false =>
    simp only [firstFailed, List.findIdx?_cons, id, Bool.false_eq_true, ↓reduceIte, Option.map_map]

end Sys2Proof.Machine
end

/-! PROOFS. The staging commands at the queue head: PANE-SET (R9 to R12), PANE-STATE (R13, R14), PANE-SCROLL (R45 to
R47), PALETTE-LOAD (R58), MARKER-SET (R124) and BACKGROUND-SET (R60). -/

section
namespace Sys2Proof.Machine

-- one theorem at a time, as in the tests: many threads' stacks at once exceed the check's memory limit
set_option Elab.async false

/-! ### Tables by index -/

theorem vector_set_fin {α : Type} {n : Nat} (v : Vector α n) (i j : Fin n) (x : α) :
    (v.set i x)[j] = if j = i then x else v[j] := by
  simp only [Fin.getElem_fin, Vector.getElem_set, Fin.ext_iff, eq_comm]

@[simp] theorem vector_ofFn_fin {α : Type} {n : Nat} (f : Fin n → α) (i : Fin n) : (Vector.ofFn f)[i] = f i := by
  simp only [Fin.getElem_fin, Vector.getElem_ofFn]

theorem PaneTable.setShadow_shadow (t : PaneTable) (i j : Fin 8) (p : ShadowPane) :
    (t.setShadow i p).shadow[j] = if j = i then p else t.shadow[j] :=
  vector_set_fin t.shadow i j p

@[simp] theorem PaneTable.setShadow_active (t : PaneTable) (i : Fin 8) (p : ShadowPane) :
    (t.setShadow i p).active = t.active := rfl

theorem eq_paneOf_iff {b : Byte} (hb : b.toNat ≤ 7) (i : Fin 8) : i = paneOf b ↔ i.val = b.toNat := by
  rw [Fin.ext_iff, paneOf, Fin.val_ofNat, Nat.mod_eq_of_lt (by omega)]

theorem half_eq_zero_iff (h : Half) : h = 0 ↔ h.toNat = 0 := BitVec.toNat_inj.symm

theorem byte_eq_zero_iff (b : Byte) : b = 0 ↔ b.toNat = 0 := BitVec.toNat_inj.symm

/-- The footprint's last entry lies outside the store, as the tables count it (R3). -/
theorem not_footprintFits_iff (base stride width height : Nat) :
    (!footprintFits base stride width height) = true ↔ 262143 < base + (height - 1) * stride + width - 1 := by
  rw [footprintFits, Bool.not_eq_true', decide_eq_false_iff_not, Config.storeEntries]
  omega

/-! ### PANE-SET -/

/-- The checks of Table 1-4 in order. -/
theorem paneSetCheck_eq (p : PaneSetParams) :
    paneSetCheck p = firstFailed
      [decide (7 < p.pane.toNat),
       decide (2047 < p.screenX.toNat ∨ 2047 < p.screenY.toNat),
       decide (p.width = 0 ∨ 2048 < p.width.toNat ∨ p.height = 0 ∨ 2048 < p.height.toNat),
       decide (p.stride.toNat < p.width.toNat ∨ 2048 < p.stride.toNat),
       decide ((p.hscale ≠ 1 ∧ p.hscale ≠ 2) ∨ (p.vscale ≠ 1 ∧ p.vscale ≠ 2)),
       decide (16 < p.opacity.toNat),
       decide (p.keyPresent ≠ 0 ∧ p.keyPresent ≠ 1),
       decide (262143 < p.base.toNat),
       decide (262143 < p.base.toNat + (p.height.toNat - 1) * p.stride.toNat + p.width.toNat - 1)] := by
  simp only [firstFailed_cons, firstFailed_nil, decide_eq_true_eq, apply_ite (Option.map _), Option.map_some,
    Option.map_none, Nat.reduceAdd, half_eq_zero_iff, paneSetCheck, not_or, not_footprintFits_iff]
  rfl

/-- Settles O30: the checks are Table 1-4's; a PANE-SET that passes them replaces one shadow record. -/
theorem paneSetWritesTheShadowRecord : Obligations.PaneSetWritesTheShadowRecord := by
  rintro s ⟨o, r⟩ rest p hqueue hrequest hcommit
  obtain rfl : r = .paneSet p := hrequest
  refine ⟨s.paneSet ⟨o, .paneSet p⟩ p, exec_staging_head hqueue rfl rfl hcommit, ?_⟩
  rw [← paneSetCheck_eq]
  unfold State.paneSet
  cases hcheck : paneSetCheck p with
  | some k =>
    refine ⟨?_, State.complete_panes .., State.complete_answered rfl rfl rfl _ _ _⟩
    rw [State.complete_panes]
    exact State.complete_eq ..
  | none =>
    have hpane : p.pane.toNat ≤ 7 := by
      by_contra hbig
      rw [paneSetCheck, if_pos (by omega)] at hcheck
      cases hcheck
    dsimp only
    rw [State.complete_panes, State.withPanes_panes]
    refine ⟨State.complete_eq .., rfl, fun i => ⟨fun hne => ?_, fun heq => ?_⟩⟩
    · rw [PaneTable.setShadow_shadow, if_neg (mt (eq_paneOf_iff hpane i).mp hne)]
    · obtain rfl := (eq_paneOf_iff hpane i).mpr heq
      rw [PaneTable.setShadow_shadow, if_pos rfl]
      simp only [ShadowPane.set, scrollCleared, extentChanges, flagByte, decide_eq_true_eq, Bool.and_eq_true]
      exact ⟨rfl, State.complete_answered rfl rfl rfl _ _ _⟩

/-! ### PANE-STATE -/

/-- The on set has a pane that the selection lacks. -/
theorem and_not_ne_zero_iff (select on : Byte) :
    on &&& ~~~select ≠ 0 ↔ ∃ i : Fin 8, on.getLsbD i.val = true ∧ select.getLsbD i.val = false := by
  rw [not_iff_comm]
  push Not
  constructor
  · intro hsub
    refine BitVec.eq_of_getLsbD_eq fun i hi => ?_
    have hi' := hsub ⟨i, hi⟩
    rw [BitVec.getLsbD_and, BitVec.getLsbD_not, decide_eq_true hi, Bool.true_and]
    cases hon : on.getLsbD i with
    | false => simp
    | true => simpa using hi' hon
  · intro hzero i hon
    have hbit := congrArg (fun b => b.getLsbD i.val) hzero
    simpa [hon] using hbit

theorem paneStateCheck_eq (select on : Byte) :
    paneStateCheck select on = firstFailed
      [decide (select = 0), decide (∃ i : Fin 8, on.getLsbD i.val = true ∧ select.getLsbD i.val = false)] := by
  simp only [firstFailed_cons, firstFailed_nil, decide_eq_true_eq, apply_ite (Option.map _), Option.map_some,
    Option.map_none, Nat.reduceAdd, ← and_not_ne_zero_iff]
  rfl

theorem paneFlag_getLsbD (i j : Fin 8) : (paneFlag i).getLsbD j.val = decide (i = j) := by
  revert i j
  decide

theorem foldl_paneFlag_getLsbD (test : Fin 8 → Bool) (panes : List (Fin 8)) (acc : PaneSet) (j : Fin 8) :
    (panes.foldl (fun acc i => if test i then acc ||| paneFlag i else acc) acc).getLsbD j.val
      = (acc.getLsbD j.val || (decide (j ∈ panes) && test j)) := by
  induction panes generalizing acc with
  | nil => simp
  | cons i rest ih =>
    rw [List.foldl_cons, ih]
    by_cases hij : i = j
    · subst hij
      cases test i <;> simp [paneFlag_getLsbD, -BitVec.getLsbD_eq_getElem]
    · cases test i <;> simp [paneFlag_getLsbD, hij, Ne.symm hij, -BitVec.getLsbD_eq_getElem]

theorem mem_paneNumbers (i : Fin 8) : i ∈ paneNumbers := by
  revert i
  decide

/-- The set of the panes that meet a test holds a pane exactly when it meets the test. -/
theorem paneSetOf_getLsbD (test : Fin 8 → Bool) (i : Fin 8) : (paneSetOf test).getLsbD i.val = test i := by
  rw [paneSetOf, foldl_paneFlag_getLsbD]
  simp [mem_paneNumbers]

theorem PaneTable.setStates_shadow (t : PaneTable) (select on : Byte) (i : Fin 8) :
    (t.setStates select on).shadow[i] = ⟨{ t.shadow[i].fields with
      on := if select.getLsbD i.val then on.getLsbD i.val else t.shadow[i].fields.on }, t.shadow[i].requested⟩ := by
  rw [PaneTable.setStates, vector_ofFn_fin, paneIn, paneIn]
  cases select.getLsbD i.val <;> rfl

/-- Settles O31: two checks, and one record per pane whose state alone can change. -/
theorem paneStateSetsSelectedStates : Obligations.PaneStateSetsSelectedStates := by
  rintro s ⟨o, r⟩ rest select on hqueue hrequest hcommit
  obtain rfl : r = .paneState select on := hrequest
  refine ⟨s.paneState ⟨o, .paneState select on⟩ select on, exec_staging_head hqueue rfl rfl hcommit, ?_⟩
  rw [← paneStateCheck_eq]
  unfold State.paneState
  cases paneStateCheck select on with
  | some k =>
    refine ⟨?_, State.complete_panes .., State.complete_answered rfl rfl rfl _ _ _⟩
    rw [State.complete_panes]
    exact State.complete_eq ..
  | none =>
    dsimp only
    rw [State.complete_panes, State.withPanes_panes]
    exact ⟨State.complete_eq .., rfl, PaneTable.setStates_shadow _ _ _, _, paneSetOf_getLsbD _,
      State.complete_answered rfl rfl rfl _ _ _⟩

/-! ### PANE-SCROLL -/

/-- The codes of the axes, and the bytes that are none (11.5). -/
theorem axisOf_cases (b : Byte) :
    (b = 0 ∧ axisOf b = some .none) ∨ (b = 1 ∧ axisOf b = some .vertical) ∨ (b = 2 ∧ axisOf b = some .horizontal)
      ∨ (2 < b.toNat ∧ axisOf b = none) := by
  by_cases h0 : b = 0
  · exact .inl ⟨h0, by rw [h0]; rfl⟩
  by_cases h1 : b = 1
  · exact .inr (.inl ⟨h1, by rw [h1]; rfl⟩)
  by_cases h2 : b = 2
  · exact .inr (.inr (.inl ⟨h2, by rw [h2]; rfl⟩))
  · refine .inr (.inr (.inr ⟨?_, by rw [axisOf, if_neg h0, if_neg h1, if_neg h2]⟩))
    bv_omega

/-- The checks of Table 3-4 from the second on, for a pane in range; with axis NONE only the axis is checked. -/
theorem paneScrollCheck_eq {p : PaneScrollParams} (hpane : p.pane.toNat ≤ 7) (shadow : PaneRec) :
    paneScrollCheck p shadow = firstFailed
      [false,
       decide (2 < p.axis.toNat),
       decide (p.axis ≠ 0 ∧ (p.rate.toInt < -8 ∨ 8 < p.rate.toInt)),
       decide (p.axis ≠ 0 ∧ p.requestedPresent ≠ 0 ∧ p.requestedPresent ≠ 1),
       decide (p.axis ≠ 0 ∧ (2048 < p.lead.toNat ∨ 2048 < p.band.toNat ∨ 2048 < p.trail.toNat)),
       decide (p.axis ≠ 0 ∧ p.band = 0),
       decide (p.axis ≠ 0 ∧ p.lead.toNat + p.band.toNat + p.trail.toNat
         ≠ if p.axis = 1 then shadow.height else shadow.width),
       decide (p.axis ≠ 0 ∧ p.requestedPresent = 1 ∧ p.band.toNat ≤ p.requested.toNat)] := by
  simp only [firstFailed_cons, firstFailed_nil, decide_eq_true_eq, apply_ite (Option.map _), Option.map_some,
    Option.map_none, Nat.reduceAdd, half_eq_zero_iff, Bool.false_eq_true, ↓reduceIte]
  rw [paneScrollCheck, if_neg (Nat.not_lt.mpr hpane)]
  rcases axisOf_cases p.axis with ⟨hcode, haxis⟩ | ⟨hcode, haxis⟩ | ⟨hcode, haxis⟩ | ⟨hcode, haxis⟩
  · rw [haxis]
    simp [hcode]
  · rw [haxis]
    simp [hcode]
  · rw [haxis]
    simp [hcode]
  · rw [haxis]
    simp [hcode]

theorem scrollOf_eq {p : PaneScrollParams} (haxis : p.axis.toNat ≤ 2) :
    scrollOf p = if p.axis = 0 then ⟨.none, 0, 0, 0, 0⟩
      else ⟨if p.axis = 1 then .vertical else .horizontal, p.lead.toNat, p.band.toNat, p.trail.toNat,
        p.rate.toInt⟩ := by
  unfold scrollOf
  rcases axisOf_cases p.axis with ⟨hcode, haxis⟩ | ⟨hcode, haxis⟩ | ⟨hcode, haxis⟩ | ⟨hcode, -⟩
  · rw [haxis]
    simp [hcode, Scroll.still]
  · rw [haxis]
    simp [hcode]
  · rw [haxis]
    simp [hcode]
  · omega

theorem requestedOf_eq {p : PaneScrollParams} (haxis : p.axis.toNat ≤ 2) :
    requestedOf p = if p.axis ≠ 0 ∧ p.requestedPresent = 1 then some p.requested.toNat else none := by
  unfold requestedOf
  rcases axisOf_cases p.axis with ⟨hcode, haxis⟩ | ⟨hcode, haxis⟩ | ⟨hcode, haxis⟩ | ⟨hcode, -⟩
  · rw [haxis]
    simp [hcode]
  · rw [haxis]
    simp [hcode]
  · rw [haxis]
    simp [hcode]
  · omega

theorem axis_le_of_paneScrollCheck {p : PaneScrollParams} {shadow : PaneRec} (hcheck : paneScrollCheck p shadow = none) :
    p.pane.toNat ≤ 7 ∧ p.axis.toNat ≤ 2 := by
  by_cases hpane : 7 < p.pane.toNat
  · rw [paneScrollCheck, if_pos hpane] at hcheck
    cases hcheck
  rw [paneScrollCheck, if_neg hpane] at hcheck
  rcases axisOf_cases p.axis with ⟨hcode, -⟩ | ⟨hcode, -⟩ | ⟨hcode, -⟩ | ⟨-, haxis⟩
  · exact ⟨Nat.not_lt.mp hpane, by rw [hcode]; decide⟩
  · exact ⟨Nat.not_lt.mp hpane, by rw [hcode]; decide⟩
  · exact ⟨Nat.not_lt.mp hpane, by rw [hcode]; decide⟩
  · rw [haxis] at hcheck
    cases hcheck

/-- The restart flag as the reply carries it (R47). -/
theorem flagByte_restartFlag (new current : Scroll) :
    flagByte (restartFlag new current) = if new.axis = current.axis ∧ new.lead = current.lead
      ∧ new.band = current.band ∧ new.trail = current.trail then 0 else 1 := by
  rw [flagByte, restartFlag, sameGeometry]
  split_ifs <;> simp_all

theorem State.paneScroll_eq (s : State) (e : Entry) (p : PaneScrollParams) : s.paneScroll e p = { s with
    panes := (s.paneScroll e p).panes, commands := (s.paneScroll e p).commands, up := (s.paneScroll e p).up } := by
  unfold State.paneScroll
  dsimp only
  split
  · rw [State.complete_panes]
    exact State.complete_eq ..
  · rw [State.complete_panes]
    exact State.complete_eq ..

/-- Settles O32: the first check is the pane's, the others Table 3-4's; a PANE-SCROLL that passes them replaces one
shadow record. -/
theorem paneScrollWritesTheDescriptor : Obligations.PaneScrollWritesTheDescriptor := by
  rintro s ⟨o, r⟩ rest p hqueue hrequest hcommit
  obtain rfl : r = .paneScroll p := hrequest
  refine ⟨s.paneScroll ⟨o, .paneScroll p⟩ p, exec_staging_head hqueue rfl rfl hcommit,
    State.paneScroll_eq .., fun hpane => ?_, fun i hi => ?_⟩
  all_goals unfold State.paneScroll
  · have hcheck : paneScrollCheck p s.panes.shadow[paneOf p.pane].fields = some 1 := if_pos hpane
    dsimp only
    rw [hcheck]
    exact ⟨State.complete_panes .., State.complete_answered rfl rfl rfl _ _ _⟩
  · have hpane : p.pane.toNat ≤ 7 := by omega
    obtain rfl := (eq_paneOf_iff hpane i).mpr hi
    dsimp only
    rw [← paneScrollCheck_eq hpane]
    cases hcheck : paneScrollCheck p s.panes.shadow[paneOf p.pane].fields with
    | some k => exact ⟨State.complete_panes .., State.complete_answered rfl rfl rfl _ _ _⟩
    | none =>
      obtain ⟨-, haxis⟩ := axis_le_of_paneScrollCheck hcheck
      dsimp only
      rw [State.complete_panes, State.withPanes_panes]
      refine ⟨rfl, fun j hj => ?_, ?_, ?_⟩
      · rw [PaneTable.setShadow_shadow, if_neg hj]
      · rw [PaneTable.setShadow_shadow, if_pos rfl, ShadowPane.setScroll, scrollOf_eq haxis, requestedOf_eq haxis]
      · rw [flagByte_restartFlag, scrollOf_eq haxis]
        exact State.complete_answered rfl rfl rfl _ _ _

/-! ### PALETTE-LOAD -/

theorem loadEntries_getElem (entries : List PaletteEntry) (v : Vector PaletteEntry 256) (first : Nat) (i : Fin 256) :
    (loadEntries v first entries)[i] = if i.val < first then v[i] else (entries[i.val - first]?).getD v[i] := by
  induction entries generalizing v first with
  | nil => simp [loadEntries]
  | cons e es ih =>
    rw [loadEntries, ih]
    simp only [Fin.getElem_fin, Vector.getElem_setIfInBounds]
    rcases Nat.lt_trichotomy i.val first with hlt | heq | hgt
    · simp [hlt, show i.val < first + 1 by omega, show ¬ first = i.val by omega]
    · simp [heq]
    · obtain ⟨k, hk⟩ := Nat.exists_eq_add_of_lt hgt
      simp [hk, show first + k + 1 - (first + 1) = k by omega, show first + k + 1 - first = k + 1 by omega,
        show ¬ first + k + 1 < first by omega, show ¬ first + k + 1 < first + 1 by omega,
        show ¬ first = first + k + 1 by omega]

theorem paletteLoadCheck_of_long {first : Byte} {entries : List PaletteEntry}
    (hlong : 255 < first.toNat + entries.length - 1) : paletteLoadCheck first entries = some (1, 0) :=
  if_pos (by omega)

theorem paletteLoadCheck_of_fitting {first : Byte} {entries : List PaletteEntry}
    (hfits : first.toNat + entries.length - 1 ≤ 255) :
    paletteLoadCheck first entries
      = (entries.findIdx? (fun x => decide (16 < x.opacity.toNat))).map (fun i => (2, i)) :=
  if_neg (by omega)

theorem State.paletteLoad_eq (s : State) (e : Entry) (first : Byte) (entries : List PaletteEntry) :
    s.paletteLoad e first entries = { s with
      palette := (s.paletteLoad e first entries).palette
      commands := (s.paletteLoad e first entries).commands
      up := (s.paletteLoad e first entries).up } := by
  unfold State.paletteLoad
  split
  · rw [State.complete_palette]
    exact State.complete_eq ..
  · rw [State.complete_palette]
    exact State.complete_eq ..

/-- Settles O33: the run's end is checked before its entries, and a run that passes is written entry by entry. -/
theorem paletteLoadWritesTheRun : Obligations.PaletteLoadWritesTheRun := by
  rintro s ⟨o, r⟩ rest first entries hqueue hrequest hcommit
  obtain rfl : r = .paletteLoad first entries := hrequest
  refine ⟨s.paletteLoad ⟨o, .paletteLoad first entries⟩ first entries, exec_staging_head hqueue rfl rfl hcommit,
    State.paletteLoad_eq .., fun hlong => ?_, fun hfits => ?_⟩
  all_goals unfold State.paletteLoad
  · rw [paletteLoadCheck_of_long hlong]
    exact ⟨State.complete_palette .., State.complete_answered rfl rfl rfl _ _ _⟩
  · rw [paletteLoadCheck_of_fitting hfits]
    cases entries.findIdx? (fun x => decide (16 < x.opacity.toNat)) with
    | some position => exact ⟨State.complete_palette .., State.complete_answered rfl rfl rfl _ _ _⟩
    | none =>
      dsimp only [Option.map_none]
      rw [State.complete_palette, State.withPalette_palette]
      exact ⟨rfl, loadEntries_getElem entries s.palette.shadow first.toNat,
        State.complete_answered rfl rfl rfl _ _ _⟩

/-! ### MARKER-SET and BACKGROUND-SET -/

/-- The codes of the actions, and the bytes that are none (11.5). -/
theorem actionOf_cases (b : Byte) :
    (b = 0 ∧ actionOf b = some .off) ∨ (b = 1 ∧ actionOf b = some .notice) ∨ (b = 2 ∧ actionOf b = some .pulse)
      ∨ (b = 3 ∧ actionOf b = some .both) ∨ (3 < b.toNat ∧ actionOf b = none) := by
  by_cases h0 : b = 0
  · exact .inl ⟨h0, by rw [h0]; rfl⟩
  by_cases h1 : b = 1
  · exact .inr (.inl ⟨h1, by rw [h1]; rfl⟩)
  by_cases h2 : b = 2
  · exact .inr (.inr (.inl ⟨h2, by rw [h2]; rfl⟩))
  by_cases h3 : b = 3
  · exact .inr (.inr (.inr (.inl ⟨h3, by rw [h3]; rfl⟩)))
  · refine .inr (.inr (.inr (.inr ⟨?_, by rw [actionOf, if_neg h0, if_neg h1, if_neg h2, if_neg h3]⟩)))
    bv_omega

theorem actionOf_eq_none_iff (b : Byte) : actionOf b = none ↔ 3 < b.toNat := by
  rcases actionOf_cases b with ⟨rfl, h⟩ | ⟨rfl, h⟩ | ⟨rfl, h⟩ | ⟨rfl, h⟩ | ⟨hbig, h⟩
  · rw [h]
    decide
  · rw [h]
    decide
  · rw [h]
    decide
  · rw [h]
    decide
  · exact ⟨fun _ => hbig, fun _ => h⟩

theorem actionOf_getD {b : Byte} (hb : b.toNat ≤ 3) :
    (actionOf b).getD .off
      = if b = 0 then .off else if b = 1 then .notice else if b = 2 then .pulse else .both := by
  rcases actionOf_cases b with ⟨rfl, h⟩ | ⟨rfl, h⟩ | ⟨rfl, h⟩ | ⟨rfl, h⟩ | ⟨hbig, h⟩
  · rw [h]
    rfl
  · rw [h]
    rfl
  · rw [h]
    rfl
  · rw [h]
    rfl
  · omega

theorem markerSetCheck_eq (slot : Byte) (line : Half) (action : Byte) :
    markerSetCheck slot line action
      = firstFailed [decide (3 < slot.toNat), decide (2047 < line.toNat), decide (3 < action.toNat)] := by
  simp only [firstFailed_cons, firstFailed_nil, decide_eq_true_eq, apply_ite (Option.map _), Option.map_some,
    Option.map_none, Nat.reduceAdd, markerSetCheck, actionOf_eq_none_iff]

theorem markerSetCheck_eq_none {slot : Byte} {line : Half} {action : Byte}
    (hcheck : markerSetCheck slot line action = none) :
    slot.toNat ≤ 3 ∧ line.toNat ≤ 2047 ∧ action.toNat ≤ 3 := by
  rw [markerSetCheck] at hcheck
  split_ifs at hcheck with hslot hline haction
  rw [actionOf_eq_none_iff] at haction
  exact ⟨Nat.not_lt.mp hslot, Nat.not_lt.mp hline, Nat.not_lt.mp haction⟩

theorem eq_ofNat_slot_iff {b : Byte} (hb : b.toNat ≤ 3) (i : Fin 4) : i = Fin.ofNat 4 b.toNat ↔ i.val = b.toNat := by
  rw [Fin.ext_iff, Fin.val_ofNat, Nat.mod_eq_of_lt (by omega)]

/-- The differs flag as the reply carries it (R124). -/
theorem flagByte_slot_ne (a b : MarkerSlot) : flagByte (decide (a ≠ b)) = if b = a then 0 else 1 := by
  rw [flagByte]
  by_cases h : a = b
  · simp [h]
  · simp [h, Ne.symm h]

/-- Settles O34: MARKER-SET's checks and its one slot; BACKGROUND-SET has no check. -/
theorem markerAndBackgroundAreStaged : Obligations.MarkerAndBackgroundAreStaged := by
  refine ⟨?_, ?_⟩
  · rintro s ⟨o, r⟩ rest slot line action hqueue hrequest hcommit
    obtain rfl : r = .markerSet slot line action := hrequest
    refine ⟨s.markerSet ⟨o, .markerSet slot line action⟩ slot line action, exec_staging_head hqueue rfl rfl hcommit, ?_⟩
    rw [← markerSetCheck_eq]
    unfold State.markerSet
    cases hcheck : markerSetCheck slot line action with
    | some k =>
      refine ⟨?_, State.complete_markers .., State.complete_answered rfl rfl rfl _ _ _⟩
      rw [State.complete_markers]
      exact State.complete_eq ..
    | none =>
      obtain ⟨hslot, -, haction⟩ := markerSetCheck_eq_none hcheck
      dsimp only
      rw [State.complete_markers, State.withMarkers_markers]
      refine ⟨State.complete_eq .., rfl, fun i => ⟨fun hne => ?_, fun heq => ?_⟩⟩
      · rw [vector_set_fin, if_neg (mt (eq_ofNat_slot_iff hslot i).mp hne)]
      · obtain rfl := (eq_ofNat_slot_iff hslot i).mpr heq
        rw [vector_set_fin, if_pos rfl, flagByte_slot_ne, actionOf_getD haction]
        exact ⟨rfl, State.complete_answered rfl rfl rfl _ _ _⟩
  · rintro s ⟨o, r⟩ rest colour hqueue hrequest hcommit
    obtain rfl : r = .backgroundSet colour := hrequest
    exact ⟨s.backgroundSet ⟨o, .backgroundSet colour⟩ colour, exec_staging_head hqueue rfl rfl hcommit,
      State.complete_eq .., State.complete_answered rfl rfl rfl _ _ _⟩

end Sys2Proof.Machine
end

/-! PROOFS. The other queued commands at the queue head: COMMIT (R68, R69), DISCARD (R77), FADE (R62), CONFIG (R144),
QUERY-PANE (R15), QUERY-PALETTE (R59) and IDENTIFY (R147). -/

section
namespace Sys2Proof.Machine

-- one theorem at a time, as in the tests: many threads' stacks at once exceed the check's memory limit
set_option Elab.async false

/-! ### COMMIT and DISCARD -/

theorem State.commit_eq (s : State) (e : Entry) :
    s.commit e = { s with commitPending := true, commands := (s.commit e).commands, up := (s.commit e).up } :=
  State.complete_eq ..

theorem State.discard_eq (s : State) (e : Entry) : s.discard e = { s with
    panes := s.panes.discard
    palette := s.palette.discard
    markers := s.markers.discard
    commitPending := false
    commands := (s.discard e).commands
    up := (s.discard e).up } :=
  State.complete_eq ..

theorem State.discard_panes (s : State) (e : Entry) : (s.discard e).panes = s.panes.discard :=
  State.complete_panes ..

/-- Settles O35: neither command has a check, and each writes its blocks and its reply. -/
theorem commitAndDiscardMoveTheFlag : Obligations.CommitAndDiscardMoveTheFlag := by
  refine ⟨?_, ?_⟩
  · rintro s ⟨o, r⟩ rest hqueue hrequest
    obtain rfl : r = .commit := hrequest
    exact ⟨s.commit ⟨o, .commit⟩, exec_other_head hqueue rfl rfl, State.commit_eq .., State.complete_answered rfl rfl rfl _ _ _⟩
  · rintro s ⟨o, r⟩ rest hqueue hrequest
    obtain rfl : r = .discard := hrequest
    refine ⟨s.discard ⟨o, .discard⟩, exec_other_head hqueue rfl rfl, ?_, ?_, fun i => ?_,
      State.complete_answered rfl rfl rfl _ _ _⟩
    · rw [State.discard_panes]
      exact State.discard_eq ..
    · rw [State.discard_panes]
      rfl
    · rw [State.discard_panes, PaneTable.discard, vector_ofFn_fin]

/-! ### FADE -/

theorem fadeCheck_eq (target : Byte) (frames : Half) :
    fadeCheck target frames = firstFailed [decide (16 < target.toNat), decide (255 < frames.toNat)] := by
  simp only [firstFailed_cons, firstFailed_nil, decide_eq_true_eq, apply_ite (Option.map _), Option.map_some,
    Option.map_none, Nat.reduceAdd, fadeCheck]

/-- Settles O36: two checks, and a ramp that starts from the level as it stands. -/
theorem fadeStartsARamp : Obligations.FadeStartsARamp := by
  rintro s ⟨o, r⟩ rest target frames hqueue hrequest
  obtain rfl : r = .fade target frames := hrequest
  refine ⟨s.beginFade ⟨o, .fade target frames⟩ target frames, exec_other_head hqueue rfl rfl, ?_⟩
  rw [← fadeCheck_eq]
  unfold State.beginFade
  cases fadeCheck target frames with
  | some k =>
    refine ⟨?_, State.complete_fade .., State.complete_answered rfl rfl rfl _ _ _⟩
    rw [State.complete_fade]
    exact State.complete_eq ..
  | none =>
    refine ⟨?_, State.complete_fade .., State.complete_answered rfl rfl rfl _ _ _⟩
    rw [State.complete_fade]
    exact State.complete_eq ..

/-! ### CONFIG -/

theorem configCheck_eq (freeRun interval : Byte) :
    configCheck freeRun interval = firstFailed
      [decide (freeRun ≠ 0 ∧ freeRun ≠ 1), decide (interval.toNat < 20 ∨ 250 < interval.toNat)] := by
  simp only [firstFailed_cons, firstFailed_nil, decide_eq_true_eq, apply_ite (Option.map _), Option.map_some,
    Option.map_none, Nat.reduceAdd, configCheck, not_or]

/-- Settles O37: two checks; then the reply, and the comparison that LOSS_TIMER_EXPIRY makes. -/
theorem configTakesAllThreeItems : Obligations.ConfigTakesAllThreeItems := by
  rintro time s ⟨o, r⟩ rest freeRun interval mask hqueue hrequest
  obtain rfl : r = .config freeRun interval mask := hrequest
  have hexec : exec (.config time) s
      = .next (s.configure time ⟨o, .config freeRun interval mask⟩ freeRun interval mask) :=
    exec_other_head hqueue rfl rfl
  rw [← configCheck_eq, hexec]
  unfold State.configure
  cases configCheck freeRun interval with
  | some k =>
    exact ⟨s.complete ⟨o, .config freeRun interval mask⟩ .refusedRange [byte1 k], rfl, State.complete_eq ..,
      State.complete_answered rfl rfl rfl _ _ _⟩
  | none =>
    refine ⟨(s.withCommands { s.commands with config := ⟨decide (freeRun = 1), interval.toNat, mask⟩ }).complete
        ⟨o, .config freeRun interval mask⟩ .done [freeRun, interval, mask],
      State.complete_eq .., State.complete_answered rfl rfl rfl _ _ _, (exec_lossTimerExpiry time _).symm,
      fun hquiet => ?_⟩
    rw [State.compareLossTimer_quiet (ms := interval.toNat)]
    · rw [State.complete_config, State.withCommands_commands]
    · rw [State.complete_tracker]
      exact hquiet

/-! ### QUERY-PANE -/

/-- The key fields as Table 11-11 writes them. -/
theorem keyBytes_eq (key : Option Byte) : keyBytes key = [if key.isSome then 1 else 0, key.getD 0] := by
  cases key <;> rfl

theorem requestedBytes_eq (requested : Option Nat) :
    requestedBytes requested = (if requested.isSome then 1 else 0) :: bytes2 (requested.getD 0) := by
  cases requested <;> rfl

/-- The differs flag as the reply carries it (R15). -/
theorem flagByte_paneDiffers (shadow : ShadowPane) (active : ActivePane) :
    flagByte (paneDiffers shadow active) = if shadow.fields = active.fields then 0 else 1 := by
  rw [flagByte, paneDiffers]
  by_cases h : shadow.fields = active.fields <;> simp [h]

theorem State.queryPane_eq (s : State) (e : Entry) (pane : Byte) : s.queryPane e pane = { s with
    commands := (s.queryPane e pane).commands, up := (s.queryPane e pane).up } := by
  unfold State.queryPane
  split
  · exact State.complete_eq ..
  · exact State.complete_eq ..

/-! ### QUERY-PALETTE -/

theorem queryPaletteCheck_eq (first count copy : Byte) :
    queryPaletteCheck first count copy = firstFailed
      [decide (count = 0 ∨ 48 < count.toNat), decide (255 < first.toNat + count.toNat - 1),
       decide (copy ≠ 0 ∧ copy ≠ 1)] := by
  have hlast : 255 < first.toNat + count.toNat - 1 ↔ 256 < first.toNat + count.toNat := by omega
  simp only [firstFailed_cons, firstFailed_nil, decide_eq_true_eq, apply_ite (Option.map _), Option.map_some,
    Option.map_none, Nat.reduceAdd, queryPaletteCheck, byte_eq_zero_iff count, hlast, not_or, ne_eq]

theorem end_le_of_queryPaletteCheck {first count copy : Byte} (hcheck : queryPaletteCheck first count copy = none) :
    first.toNat + count.toNat ≤ 256 := by
  rw [queryPaletteCheck] at hcheck
  split_ifs at hcheck with hcount hend
  exact Nat.not_lt.mp hend

theorem State.queryPalette_eq (s : State) (e : Entry) (first count copy : Byte) :
    s.queryPalette e first count copy = { s with
      commands := (s.queryPalette e first count copy).commands, up := (s.queryPalette e first count copy).up } := by
  unfold State.queryPalette
  split
  · exact State.complete_eq ..
  · exact State.complete_eq ..

theorem entryBytes_eq_flatMap (entries : List PaletteEntry) :
    entryBytes entries = entries.flatMap (fun x => [x.red, x.green, x.blue, x.opacity]) := by
  induction entries with
  | nil => rfl
  | cons e es ih => rw [entryBytes, ih, List.flatMap_cons]; rfl

theorem paletteRun_length {first count : Nat} (hend : first + count ≤ 256) (v : Vector PaletteEntry 256) :
    (paletteRun v first count).length = count := by
  rw [paletteRun, List.length_take, List.length_drop, Vector.length_toList]
  omega

theorem paletteRun_getElem? {first count : Nat} (v : Vector PaletteEntry 256) (i : Fin 256) (hmin : first ≤ i.val)
    (hmax : i.val < first + count) : (paletteRun v first count)[i.val - first]? = some v[i] := by
  rw [paletteRun, List.getElem?_take_of_lt (by omega), List.getElem?_drop, Nat.add_sub_cancel' hmin,
    List.getElem?_eq_getElem (by rw [Vector.length_toList]; exact i.isLt), Vector.getElem_toList]
  rfl

/-- Settles O38: none of the three writes a block, and the reports are the records, the run and the identity as they
stand. -/
theorem queriesReportAndChangeNothing : Obligations.QueriesReportAndChangeNothing := by
  rintro s ⟨o, r⟩ rest hqueue
  refine ⟨fun pane hrequest => ?_, fun first count copy hrequest => ?_, fun hrequest => ?_⟩
  · obtain rfl : r = .queryPane pane := hrequest
    refine ⟨s.queryPane ⟨o, .queryPane pane⟩ pane, exec_other_head hqueue rfl rfl, State.queryPane_eq ..,
      fun hbig => ?_, fun i hi => ?_⟩
    · rw [State.queryPane, if_pos hbig]
      exact State.complete_answered rfl rfl rfl _ _ _
    · have hpane : pane.toNat ≤ 7 := by omega
      obtain rfl := (eq_paneOf_iff hpane i).mpr hi
      rw [State.queryPane, if_neg (Nat.not_lt.mpr hpane)]
      have hanswer := State.complete_answered (s := s) (u := s) rfl rfl rfl ⟨o, .queryPane pane⟩ .done
        (pane :: flagByte (paneDiffers s.panes.shadow[paneOf pane] s.panes.active[paneOf pane])
          :: recordBytes s.panes.shadow[paneOf pane].fields
          ++ requestedBytes s.panes.shadow[paneOf pane].requested
          ++ recordBytes s.panes.active[paneOf pane].fields ++ bytes2 s.panes.active[paneOf pane].offset)
      simp only [flagByte_paneDiffers, recordBytes, keyBytes_eq, requestedBytes_eq, List.append_assoc, List.cons_append,
        List.nil_append] at hanswer ⊢
      exact hanswer
  · obtain rfl : r = .queryPalette first count copy := hrequest
    refine ⟨s.queryPalette ⟨o, .queryPalette first count copy⟩ first count copy, exec_other_head hqueue rfl rfl,
      State.queryPalette_eq .., ?_⟩
    rw [← queryPaletteCheck_eq]
    unfold State.queryPalette
    cases hcheck : queryPaletteCheck first count copy with
    | some k => exact State.complete_answered rfl rfl rfl _ _ _
    | none =>
      have hend := end_le_of_queryPaletteCheck hcheck
      refine ⟨_, paletteRun_length hend (if copy = 0 then s.palette.shadow else s.palette.active),
        fun i hmin hmax => ?_, ?_⟩
      · rw [paletteRun_getElem? _ i hmin hmax]
        split <;> rfl
      · rw [← entryBytes_eq_flatMap]
        exact State.complete_answered rfl rfl rfl _ _ _
  · obtain rfl : r = .identify := hrequest
    exact ⟨s.identify ⟨o, .identify⟩, exec_other_head hqueue rfl rfl, State.complete_eq ..,
      State.complete_answered rfl rfl rfl _ _ _⟩

end Sys2Proof.Machine
end

/-! PROOFS. The beginning and the end of frames: FRAME-OPEN in each tracker state (R102 to R106, R111), FRAME-CLOSE
(R109, R117), and the loss of video (R113 to R115, R118). -/

section
namespace Sys2Proof.Machine

-- one theorem at a time, as in the tests: many threads' stacks at once exceed the check's memory limit
set_option Elab.async false

/-! ### The frame start (R49, R50, R63, R71) -/

@[simp] theorem autoScroll_fields (a : ActivePane) : (autoScroll a).fields = a.fields := by
  unfold autoScroll
  dsimp only
  split <;> rfl

theorem autoScroll_offset (a : ActivePane) :
    (autoScroll a).offset =
      if a.fields.on = true ∧ a.fields.scroll.rate ≠ 0 ∧ a.fields.scroll.axis ≠ .none then
        (((a.offset : Int) + a.fields.scroll.rate) % (a.fields.scroll.band : Int)).toNat
      else a.offset := by
  simp only [autoScroll, Bool.and_eq_true, decide_eq_true_eq]
  split <;> rfl

theorem startPane_fields (commit : Bool) (sh : ShadowPane) (a : ActivePane) :
    (startPane commit sh a).fields = if commit then sh.fields else a.fields := by
  cases commit with
  | false => exact autoScroll_fields a
  | true =>
    simp only [startPane, ↓reduceIte]
    split
    · rfl
    · exact autoScroll_fields _

theorem commitSetsOffset_iff (sh : ShadowPane) (a : ActivePane) :
    commitSetsOffset sh a = true ↔ sh.requested.isSome ∨ sh.fields.scroll.axis ≠ a.fields.scroll.axis
      ∨ sh.fields.scroll.lead ≠ a.fields.scroll.lead ∨ sh.fields.scroll.band ≠ a.fields.scroll.band
      ∨ sh.fields.scroll.trail ≠ a.fields.scroll.trail := by
  simp only [commitSetsOffset, sameGeometry, Bool.or_eq_true, Bool.not_eq_true', decide_eq_false_iff_not]
  tauto

/-- Where the commit sets the offset, it is the requested one, or 0 for a changed geometry (Table 3-6). -/
theorem commitPane_offset_of_sets {sh : ShadowPane} {a : ActivePane} (h : commitSetsOffset sh a = true) :
    (commitPane sh a).offset = sh.requested.getD 0 := by
  unfold commitPane
  cases hreq : sh.requested with
  | some o => rfl
  | none =>
    have hgeometry : sameGeometry sh.fields.scroll a.fields.scroll = false := by
      simpa [commitSetsOffset, hreq] using h
    simp [hgeometry]

/-- Where it does not, the offset is kept. -/
theorem commitPane_offset_of_keeps {sh : ShadowPane} {a : ActivePane} (h : ¬ commitSetsOffset sh a = true) :
    (commitPane sh a).offset = a.offset := by
  simp only [commitSetsOffset, Bool.or_eq_true, Bool.not_eq_true', not_or, Bool.not_eq_false,
    Option.not_isSome_iff_eq_none] at h
  simp only [commitPane, h.2, h.1, ↓reduceIte]

theorem startPane_offset (commit : Bool) (sh : ShadowPane) (a : ActivePane) :
    (startPane commit sh a).offset = startedOffset commit sh a (startPane commit sh a).fields := by
  rw [startPane_fields]
  simp only [startedOffset, ← commitSetsOffset_iff]
  cases commit with
  | false =>
    simp only [startPane, Bool.false_eq_true, ↓reduceIte, false_and]
    exact autoScroll_offset a
  | true =>
    simp only [startPane, ↓reduceIte, true_and]
    by_cases hsets : commitSetsOffset sh a = true
    · simp only [hsets, ↓reduceIte]
      exact commitPane_offset_of_sets hsets
    · simp only [hsets, Bool.false_eq_true, ↓reduceIte]
      rw [autoScroll_offset, commitPane_offset_of_keeps hsets]
      rfl

theorem PaneTable.frameStart_active (t : PaneTable) (commit : Bool) (i : Fin 8) :
    (t.frameStart commit).active[i] = startPane commit t.shadow[i] t.active[i] :=
  vector_ofFn_fin _ i

theorem PaneTable.frameStart_shadow (t : PaneTable) (commit : Bool) (i : Fin 8) :
    (t.frameStart commit).shadow[i]
      = ⟨t.shadow[i].fields, if commit then none else t.shadow[i].requested⟩ := by
  cases commit with
  | false => rfl
  | true => exact vector_ofFn_fin _ i

theorem FadeEngine.step_eq (f : FadeEngine) :
    f.step = if f.ramp = false then f
      else if f.count = 0 then { f with level := f.target, ramp := false }
      else { f with
        level := ((f.start : Int) + Int.tdiv (((f.target : Int) - f.start) * (f.done + 1)) f.count).toNat
        done := f.done + 1
        ramp := decide (f.done + 1 < f.count) } := by
  unfold FadeEngine.step rampLevel
  cases f.ramp <;> simp

/-- The two states agree in every block that a frame start reads or writes. -/
structure State.SameStaged (s t : State) : Prop where
  commitPending : t.commitPending = s.commitPending
  panes : t.panes = s.panes
  palette : t.palette = s.palette
  fade : t.fade = s.fade
  compositor : t.compositor = s.compositor
  shadowMarkers : t.markers.shadow = s.markers.shadow
  activeMarkers : t.markers.active = s.markers.active

theorem State.frameStart_frameStarted (s : State) : s.frameStarted s.frameStart := by
  refine ⟨rfl, rfl, fun i => ⟨?_, ?_, ?_, ?_⟩, ?_, ?_, ?_, FadeEngine.step_eq _⟩
  · rw [← startPane_fields s.commitPending s.panes.shadow[i] s.panes.active[i], ← PaneTable.frameStart_active]
    rfl
  · have hoffset := startPane_offset s.commitPending s.panes.shadow[i] s.panes.active[i]
    rw [← PaneTable.frameStart_active] at hoffset
    exact hoffset
  · have hshadow := congrArg ShadowPane.fields (PaneTable.frameStart_shadow s.panes s.commitPending i)
    exact hshadow
  · have hshadow := congrArg ShadowPane.requested (PaneTable.frameStart_shadow s.panes s.commitPending i)
    exact hshadow
  · rfl
  · show (if s.commitPending = true then s.markers.commit else s.markers).shadow = _
    split <;> rfl
  · show (if s.commitPending = true then s.markers.commit else s.markers).active = _
    split <;> rfl

/-- A frame start rests on the staged blocks before it and shows in the staged blocks after it. -/
theorem State.SameStaged.frameStarted {s u t : State} (hbefore : s.SameStaged u) (hafter : u.frameStart.SameStaged t) :
    s.frameStarted t := by
  have hstart := u.frameStart_frameStarted
  obtain ⟨hc, hp, hl, hf, ho, hs, ha⟩ := hbefore
  obtain ⟨hc', hp', hl', hf', ho', hs', ha'⟩ := hafter
  unfold State.frameStarted at hstart ⊢
  rw [hc', hp', hl', hf', ho', hs', ha', ← hc, ← hp, ← hl, ← hf, ← ho, ← hs, ← ha]
  exact hstart

/-- The tracker after a frame start (R102, R103). -/
@[simp] theorem State.frameStart_tracker (s : State) :
    s.frameStart.tracker = { s.tracker with faults := FrameFaults.zero, blankCount := 0 } := rfl

/-- MARK stays at a frame start. -/
@[simp] theorem State.frameStart_mark (s : State) : s.frameStart.markers.mark = s.markers.mark := by
  show (if s.commitPending = true then s.markers.commit else s.markers).mark = _
  split <;> rfl

theorem FadeEngine.step_ramp_eq_false_iff {f : FadeEngine} (hramp : f.ramp = true) :
    f.step.ramp = false ↔ f.count ≤ f.done + 1 := by
  rw [FadeEngine.step_eq]
  by_cases hcount : f.count = 0
  · simp [hramp, hcount]
  · simp [hramp, hcount]

/-- The notices of a frame start in the words of the statements (R64, R73). -/
theorem State.startOffers_eq {s u : State} (h : s.SameStaged u) :
    u.startOffers = s.startNotices u.tracker.frame.number s.fade.step.level := by
  rw [State.startOffers, State.committedOffers, FadeEngine.doneOffers, State.startNotices, h.commitPending, h.fade]
  cases hramp : s.fade.ramp with
  | false => simp
  | true => simp [← FadeEngine.step_ramp_eq_false_iff hramp]

/-! ### The frame end (R30, R103, R120) -/

theorem FrameFaults.eq_zero_iff (f : FrameFaults) :
    f = FrameFaults.zero ↔ f.width = 0 ∧ f.excess = 0 ∧ f.short = 0 ∧ f.strays = 0 ∧ f.cut = false := by
  obtain ⟨width, excess, short, strays, cut⟩ := f
  simp [FrameFaults.zero]

/-- The notices of a frame end in the words of the statements. -/
theorem State.endOffers_eq (s : State) (after : List Offer) :
    [s.faultOffers ++ after, s.overrunOffers]
      = endNotices s.tracker.frame.number s.tracker.faults s.compositor.overrun after := by
  simp only [State.faultOffers, State.overrunOffers, endNotices, FrameFaults.eq_zero_iff]
  rfl

theorem State.endOffers_eq_nil (s : State) :
    [s.faultOffers, s.overrunOffers]
      = endNotices s.tracker.frame.number s.tracker.faults s.compositor.overrun [] := by
  rw [← State.endOffers_eq, List.append_nil]

/-- Short is recorded in a locked frame alone, and only when lines are missing. -/
theorem Tracker.endFaults_eq (t : Tracker) :
    { t.faults with short := t.frame.shortBy t.faults.short } = t.endFaults := by
  unfold FrameRecord.shortBy Tracker.endFaults
  cases t.frame.kind with
  | passThrough | internal => rfl
  | locked =>
    cases t.frame.lines with
    | none => rfl
    | some lines =>
      by_cases hmissing : t.frame.linesTaken < lines
      · dsimp only
        rw [if_pos hmissing, if_pos hmissing]
      · dsimp only
        rw [if_neg hmissing, if_neg hmissing]

theorem State.recordShort_tracker (s : State) :
    s.recordShort.tracker = { s.tracker with faults := s.tracker.endFaults } := by
  rw [← Tracker.endFaults_eq, State.recordShort, State.withTracker_tracker]

theorem State.cutFrame_tracker (s : State) :
    s.cutFrame.tracker = { s.tracker with
      faults := { s.tracker.endFaults with cut := true }, framesCut := min (s.tracker.framesCut + 1) 65535 } := by
  simp only [State.cutFrame, State.withMarkers_tracker, State.withTracker_tracker, State.recordShort_tracker,
    count16_eq_min]

/-! ### Hand-over under a condition -/

theorem State.handDownIf_down (s : State) (c : Bool) (p : DownPacket) :
    (s.handDownIf c p).down = { s.down with waiting := s.down.waiting ++ if c then [p] else [] } := by
  cases c with
  | false => simp [State.handDownIf]
  | true => rfl

theorem State.handDown_down (s : State) (p : DownPacket) :
    (s.handDown p).down = { s.down with waiting := s.down.waiting ++ [p] } := rfl

/-! ### Taking a frame (R104, R111) -/

/-- The blocks that a new frame leaves alone. -/
theorem State.eq_of_frame {s t : State} (haddress : t.address = s.address) (hbad : t.badPackets = s.badPackets)
    (hcommit : t.commitPending = false) (hstore : t.store = s.store) (hwriter : t.writer = s.writer)
    (hcommands : t.commands = s.commands) (hpending : t.pending = s.pending) : t = { s with
      tracker := t.tracker, panes := t.panes, palette := t.palette, fade := t.fade
      commitPending := false, compositor := t.compositor, markers := t.markers
      up := t.up, down := t.down, orderings := t.orderings } := by
  rw [← haddress, ← hbad, ← hcommit, ← hstore, ← hwriter, ← hcommands, ← hpending]

theorem Tracker.openRecord_eq (t : Tracker) (time : Nat) (number width lines : Half) :
    t.openRecord time number width lines
      = openedRecord time number width lines t.state (if t.state = .betweenFrames then t.blankCount else 0)
          t.prevOpen := by
  by_cases hgood : 1 ≤ width.toNat ∧ width.toNat ≤ 2048 ∧ 1 ≤ lines.toNat ∧ lines.toNat ≤ 2048
  · simp [Tracker.openRecord, openedRecord, hgood]
  · simp [Tracker.openRecord, openedRecord, hgood]

theorem State.takeFrame_tracker (s : State) (time : Nat) (number width lines : Half) (ending : List (List Offer)) :
    (s.takeFrame time number width lines ending).tracker = { s.tracker with
      state := .inFrame
      frame := openedRecord time number width lines s.tracker.state
        (if s.tracker.state = .betweenFrames then s.tracker.blankCount else 0) s.tracker.prevOpen
      faults := ⟨0, 0, 0, 0, false⟩
      generator := none
      lossStart := some time
      prevOpen := some time
      blankCount := 0 } := by
  rw [← Tracker.openRecord_eq, State.takeFrame, State.offerAll_tracker]
  rfl

theorem State.takeFrame_down (s : State) (time : Nat) (number width lines : Half) (ending : List (List Offer)) :
    (s.takeFrame time number width lines ending).down
      = { s.down with waiting := s.down.waiting ++ [.frameOpen number width lines] } := by
  rw [State.takeFrame, State.offerAll_down]
  rfl

theorem State.takeFrame_mark (s : State) (time : Nat) (number width lines : Half) (ending : List (List Offer)) :
    (s.takeFrame time number width lines ending).markers.mark = s.markers.mark := by
  rw [State.takeFrame, State.offerAll_markers, State.handDown_markers, State.frameStart_mark, State.withTracker_markers]

theorem State.takeFrame_commitPending (s : State) (time : Nat) (number width lines : Half)
    (ending : List (List Offer)) : (s.takeFrame time number width lines ending).commitPending = false := by
  rw [State.takeFrame, State.offerAll_commitPending]
  rfl

theorem State.takeFrame_fade (s : State) (time : Nat) (number width lines : Half) (ending : List (List Offer)) :
    (s.takeFrame time number width lines ending).fade = s.fade.step := by
  rw [State.takeFrame, State.offerAll_fade]
  rfl

theorem State.takeFrame_frameStarted {s u : State} (h : s.SameStaged u) (time : Nat) (number width lines : Half)
    (ending : List (List Offer)) : s.frameStarted (u.takeFrame time number width lines ending) := by
  refine State.SameStaged.frameStarted (u := u.withTracker (u.tracker.takeOpen time number width lines)) ?_ ?_
  · exact ⟨h.commitPending, h.panes, h.palette, h.fade, h.compositor, h.shadowMarkers, h.activeMarkers⟩
  · refine ⟨?_, ?_, ?_, ?_, ?_, ?_, ?_⟩ <;> simp [State.takeFrame]

/-- The notices of the new frame come together with those of the frame that ended before it. -/
theorem State.takeFrame_noticed {s u : State} (h : s.SameStaged u) (haddress : u.address = s.address)
    (hcommands : u.commands = s.commands) (hup : u.up = s.up) (time : Nat) (number width lines : Half)
    (ending : List (List Offer)) :
    s.noticed (u.takeFrame time number width lines ending) []
      (ending ++ s.startNotices number (u.takeFrame time number width lines ending).fade.level) := by
  have hstaged : s.SameStaged (u.withTracker (u.tracker.takeOpen time number width lines)) :=
    ⟨h.commitPending, h.panes, h.palette, h.fade, h.compositor, h.shadowMarkers, h.activeMarkers⟩
  have hstart := State.startOffers_eq hstaged
  have hnumber : (u.withTracker (u.tracker.takeOpen time number width lines)).tracker.frame.number = number := rfl
  rw [hnumber] at hstart
  rw [State.takeFrame_fade, h.fade, ← hstart]
  exact State.offerAll_noticed (u := (u.withTracker (u.tracker.takeOpen time number width lines)).frameStart.handDown
    (.frameOpen number width lines)) (first := []) haddress hcommands hup _

theorem exec_frameOpen_between {s : State} (hstate : s.tracker.state = .betweenFrames) (time : Nat)
    (number width lines : Half) :
    exec (.frameOpen time number width lines) s = .next (s.takeFrame time number width lines []) := by
  rw [exec, execFrameOpen, hstate]
  rfl

theorem exec_frameOpen_inFrame {s : State} (hstate : s.tracker.state = .inFrame) (time : Nat)
    (number width lines : Half) :
    exec (.frameOpen time number width lines) s
      = .next ((s.cutFrame.handDown (.frameClose s.tracker.frame.number)).takeFrame time number width lines
          [s.cutFrame.faultOffers, s.cutFrame.overrunOffers]) := by
  rw [exec, execFrameOpen, hstate]
  rfl

theorem exec_frameOpen_freeRun {s : State} (hstate : s.tracker.state = .freeRun) (time : Nat)
    (number width lines : Half) :
    exec (.frameOpen time number width lines) s
      = .next (((s.withMarkers { s.markers with mark := false }).handDownIf s.commands.config.freeRun
            (.frameClose s.tracker.frame.number)).takeFrame time number width lines
          [s.faultOffers ++ [⟨.videoLocked, bytes2 number.toNat⟩], s.overrunOffers]) := by
  rw [exec, execFrameOpen, hstate]
  rfl

theorem State.SameStaged.refl (s : State) : s.SameStaged s := ⟨rfl, rfl, rfl, rfl, rfl, rfl, rfl⟩

/-- Cutting a frame and forwarding a packet touch none of the staged blocks. -/
theorem State.sameStaged_cutFrame (s : State) (p : DownPacket) : s.SameStaged (s.cutFrame.handDown p) :=
  ⟨rfl, rfl, rfl, rfl, rfl, rfl, rfl⟩

/-- Settles O47: a frame is taken with nothing before it. -/
theorem frameOpenStartsALockedFrame : Obligations.FrameOpenStartsALockedFrame := by
  intro time number width lines s hstate
  refine ⟨_, exec_frameOpen_between hstate time number width lines, ?_, ?_,
    State.takeFrame_frameStarted (.refl s) .., State.takeFrame_mark .., State.takeFrame_down ..,
    State.takeFrame_noticed (.refl s) rfl rfl rfl time number width lines []⟩
  · exact State.eq_of_frame (State.takeFrame_address ..) (State.takeFrame_badPackets ..)
      (State.takeFrame_commitPending ..) (State.takeFrame_store ..) (State.takeFrame_writer ..)
      (State.takeFrame_commands ..) (State.takeFrame_pending ..)
  · rw [State.takeFrame_tracker, hstate]
    rfl

/-- Settles O48: the open frame is cut, its FRAME-CLOSE handed over, and the new frame taken. -/
theorem frameOpenClosesAnOpenFrame : Obligations.FrameOpenClosesAnOpenFrame := by
  intro time number width lines s hstate
  have hstaged := s.sameStaged_cutFrame (.frameClose s.tracker.frame.number)
  refine ⟨_, exec_frameOpen_inFrame hstate time number width lines, ?_, ?_,
    State.takeFrame_frameStarted hstaged .., State.takeFrame_mark .., ?_, ?_⟩
  · exact State.eq_of_frame (State.takeFrame_address ..) (State.takeFrame_badPackets ..)
      (State.takeFrame_commitPending ..) (State.takeFrame_store ..) (State.takeFrame_writer ..)
      (State.takeFrame_commands ..) (State.takeFrame_pending ..)
  · rw [State.takeFrame_tracker, State.handDown_tracker, State.cutFrame_tracker, hstate]
    rfl
  · rw [State.takeFrame_down, State.handDown_down]
    simp only [List.append_assoc, List.singleton_append]
    rfl
  · have hnoticed := State.takeFrame_noticed hstaged rfl rfl rfl time number width lines
      [s.cutFrame.faultOffers, s.cutFrame.overrunOffers]
    rw [State.endOffers_eq_nil s.cutFrame, State.cutFrame_tracker] at hnoticed
    rw [State.endOffers_eq_nil s.cutFrame, State.cutFrame_tracker]
    exact hnoticed

/-- Settles O49: the internal frame ends without a cut, and the new frame is taken. -/
theorem frameOpenReacquiresTheInput : Obligations.FrameOpenReacquiresTheInput := by
  intro time number width lines s hstate
  have hstaged : s.SameStaged ((s.withMarkers { s.markers with mark := false }).handDownIf s.commands.config.freeRun
      (.frameClose s.tracker.frame.number)) := by
    refine ⟨?_, ?_, ?_, ?_, ?_, ?_, ?_⟩ <;> simp
  refine ⟨_, exec_frameOpen_freeRun hstate time number width lines, ?_, ?_,
    State.takeFrame_frameStarted hstaged .., ?_, ?_, ?_⟩
  · exact State.eq_of_frame (by simp) (by simp) (State.takeFrame_commitPending ..) (by simp) (by simp) (by simp) (by simp)
  · rw [State.takeFrame_tracker, State.handDownIf_tracker, State.withMarkers_tracker, hstate]
    rfl
  · rw [State.takeFrame_mark, State.handDownIf_markers]
    rfl
  · rw [State.takeFrame_down, State.handDownIf_down]
    rfl
  · rw [← State.endOffers_eq]
    exact State.takeFrame_noticed hstaged (by simp) (by simp) (by simp) time number width lines _

/-! ### FRAME-CLOSE (R109, R117) -/

theorem exec_frameClose_inFrame {s : State} (hstate : s.tracker.state = .inFrame) (number : Half) :
    exec (.frameClose number) s = .next (s.closeFrame number) := by
  rw [exec, execFrameClose, if_pos hstate]

theorem exec_frameClose_stray {s : State} (hstate : s.tracker.state ≠ .inFrame) (number : Half) :
    exec (.frameClose number) s = .next s.discardStray := by
  rw [exec, execFrameClose, if_neg hstate]

/-- Every condition of R117 in one test. -/
theorem Tracker.learn_eq (t : Tracker) :
    t.learn = match t.frame.width, t.frame.lines, t.frame.openTime, t.frame.periodBase with
      | some w, some h, some opened, some before =>
        if t.frame.kind = .locked ∧ t.frame.openedFrom = some .betweenFrames ∧ t.frame.linesTaken = h
            ∧ t.faults.width = 0 ∧ t.frame.blanksBefore ≤ 1023
            ∧ 4000 ≤ opened - before ∧ opened - before ≤ 250000 then
          ⟨w, h, t.frame.blanksBefore, opened - before⟩
        else t.timing
      | _, _, _, _ => t.timing := by
  unfold Tracker.learn FrameRecord.measuredPeriod
  rcases t.frame.width with _ | w
  · rfl
  rcases t.frame.lines with _ | h
  · rfl
  rcases t.frame.openTime with _ | opened
  · rfl
  rcases t.frame.periodBase with _ | before
  · rfl
  dsimp only
  by_cases hperiod : 4000 ≤ opened - before ∧ opened - before ≤ 250000
  · rw [if_pos hperiod]
    simp only [hperiod, and_self, and_true]
  · rw [if_neg hperiod]
    simp only [hperiod, and_false, ↓reduceIte]

/-- Recording short changes nothing that R117 asks for. -/
theorem Tracker.learn_endFaults (t : Tracker) : { t with faults := t.endFaults }.learn = t.learn := by
  have hwidth : t.endFaults.width = t.faults.width := by
    unfold Tracker.endFaults
    split
    · split <;> rfl
    · rfl
  simp only [Tracker.learn, hwidth]

theorem State.closeFrame_tracker (s : State) (number : Half) :
    (s.closeFrame number).tracker
      = { s.tracker with state := .betweenFrames, faults := s.tracker.endFaults, timing := s.tracker.learn } := by
  simp only [State.closeFrame, State.offerAll_tracker, State.handDown_tracker, State.withTracker_tracker,
    State.recordShort_tracker, Tracker.learn_endFaults]

/-- Settles O50: short is recorded before the reports, and the timing record is learned from the closed frame. -/
theorem frameCloseEndsAndTeaches : Obligations.FrameCloseEndsAndTeaches := by
  intro number s hstate
  refine ⟨_, exec_frameClose_inFrame hstate number, ?_, ?_, ?_, ?_⟩
  · obtain ⟨order, n, -, heq⟩ := State.offerAll_order
      ((s.recordShort.withTracker { s.recordShort.tracker with
        timing := s.recordShort.tracker.learn, state := .betweenFrames }).handDown (.frameClose number))
      [s.recordShort.faultOffers, s.recordShort.overrunOffers]
    rw [State.closeFrame, heq]
    rfl
  · have htracker := State.closeFrame_tracker s number
    rw [Tracker.learn_eq] at htracker
    exact htracker
  · rw [State.closeFrame, State.offerAll_down]
    rfl
  · have hblocks := State.endOffers_eq_nil s.recordShort
    rw [State.recordShort_tracker] at hblocks
    exact hblocks ▸ State.offerAll_noticed (first := []) rfl rfl rfl _

/-! ### Internal frames and the loss of video (R113 to R115, R118) -/

theorem State.beginInternal_tracker (s : State) (time : Nat) (ending : List (List Offer)) :
    (s.beginInternal time ending).tracker = s.tracker.internalBegun time := by
  rw [State.beginInternal, State.offerAll_tracker, State.handDownIf_tracker]
  rfl

/-- The FRAME-OPEN of the internal frame that follows, if free-run output is enabled (R119). -/
theorem State.beginInternal_down (s : State) (time : Nat) (ending : List (List Offer)) :
    (s.beginInternal time ending).down = { s.down with waiting := s.down.waiting
      ++ if s.commands.config.freeRun then [.frameOpen (s.tracker.frame.number + 1)
        (BitVec.ofNat 16 s.tracker.timing.width) (BitVec.ofNat 16 s.tracker.timing.lines)] else [] } := by
  rw [State.beginInternal, State.offerAll_down, State.handDownIf_down]
  rfl

theorem State.beginInternal_mark (s : State) (time : Nat) (ending : List (List Offer)) :
    (s.beginInternal time ending).markers.mark = s.markers.mark := by
  rw [State.beginInternal, State.offerAll_markers, State.handDownIf_markers, State.frameStart_mark,
    State.withTracker_markers]

theorem State.beginInternal_commitPending (s : State) (time : Nat) (ending : List (List Offer)) :
    (s.beginInternal time ending).commitPending = false := by
  rw [State.beginInternal, State.offerAll_commitPending, State.handDownIf_commitPending]
  rfl

theorem State.beginInternal_fade (s : State) (time : Nat) (ending : List (List Offer)) :
    (s.beginInternal time ending).fade = s.fade.step := by
  rw [State.beginInternal, State.offerAll_fade, State.handDownIf_fade]
  rfl

theorem State.beginInternal_frameStarted {s u : State} (h : s.SameStaged u) (time : Nat)
    (ending : List (List Offer)) : s.frameStarted (u.beginInternal time ending) := by
  refine State.SameStaged.frameStarted (u := u.withTracker (u.tracker.beginInternal time)) ?_ ?_
  · exact ⟨h.commitPending, h.panes, h.palette, h.fade, h.compositor, h.shadowMarkers, h.activeMarkers⟩
  · refine ⟨?_, ?_, ?_, ?_, ?_, ?_, ?_⟩ <;> simp [State.beginInternal]

/-- The notices of the internal frame come together with those of the frame that ended before it, `first` having
been offered before either. -/
theorem State.beginInternal_noticed {s u : State} {first : List Offer} (h : s.SameStaged u)
    (haddress : u.address = s.address) (hcommands : u.commands = s.commands) (hup : u.up = s.afterNotices first)
    (time : Nat) (ending : List (List Offer)) :
    s.noticed (u.beginInternal time ending) first
      (ending ++ s.startNotices (u.tracker.frame.number + 1) (u.beginInternal time ending).fade.level) := by
  have hstaged : s.SameStaged (u.withTracker (u.tracker.beginInternal time)) :=
    ⟨h.commitPending, h.panes, h.palette, h.fade, h.compositor, h.shadowMarkers, h.activeMarkers⟩
  have hstart := State.startOffers_eq hstaged
  have hnumber : (u.withTracker (u.tracker.beginInternal time)).tracker.frame.number = u.tracker.frame.number + 1 := rfl
  rw [hnumber] at hstart
  rw [State.beginInternal_fade, h.fade, ← hstart]
  exact State.offerAll_noticed (by simpa using haddress) (by simpa using hcommands) (by simpa using hup) _

theorem State.lossDue_of_elapsed {s : State} {time t0 : Nat} (hstart : s.tracker.lossStart = some t0)
    (hdue : t0 + s.commands.config.lossInterval * 1000 ≤ time) : s.lossDue time = true := by
  rw [State.lossDue, hstart]
  exact decide_eq_true hdue

/-- The offer of VIDEO-LOST, with the number of the internal frame that begins (R115). -/
def State.lostOffer (s : State) : Offer := ⟨.videoLost, bytes2 (s.tracker.frame.number + 1).toNat⟩

theorem State.loseVideo_inFrame {s : State} (hstate : s.tracker.state = .inFrame) (time : Nat) :
    s.loseVideo time = (s.cutFrame.handDown (.frameClose s.tracker.frame.number)).beginInternal time
      [s.cutFrame.faultOffers ++ [s.lostOffer], s.cutFrame.overrunOffers] :=
  if_pos hstate

theorem State.loseVideo_between {s : State} (hstate : s.tracker.state = .betweenFrames) (time : Nat) :
    s.loseVideo time = s.beginInternal time [[s.lostOffer]] :=
  if_neg (by rw [hstate]; decide)

theorem State.loseVideo_commitPending (s : State) (time : Nat) : (s.loseVideo time).commitPending = false := by
  unfold State.loseVideo
  dsimp only
  split
  · exact State.beginInternal_commitPending ..
  · exact State.beginInternal_commitPending ..

theorem State.loseVideo_frameStarted (s : State) (time : Nat) : s.frameStarted (s.loseVideo time) := by
  unfold State.loseVideo
  dsimp only
  split
  · exact State.beginInternal_frameStarted (s.sameStaged_cutFrame (.frameClose s.tracker.frame.number)) ..
  · exact State.beginInternal_frameStarted (.refl s) ..

/-- Settles O53: an open frame is cut before the internal frame begins; between frames nothing comes before it. -/
theorem lossOfVideoBeginsFreeRun : Obligations.LossOfVideoBeginsFreeRun := by
  intro time t0 s hstart hdue number opened hlocked
  have hexec : exec (.lossTimerExpiry time) s = .next (s.loseVideo time) := by
    rw [exec_lossTimerExpiry, State.compareLossTimer, if_pos (State.lossDue_of_elapsed hstart hdue)]
  refine ⟨_, hexec, ?_, State.loseVideo_frameStarted s time, fun hstate => ?_, fun hstate => ?_⟩
  · exact State.eq_of_frame (State.loseVideo_address ..) (State.loseVideo_badPackets ..)
      (State.loseVideo_commitPending ..) (State.loseVideo_store ..) (State.loseVideo_writer ..)
      (State.loseVideo_commands ..) (State.loseVideo_pending ..)
  · rw [State.loseVideo_inFrame hstate]
    refine ⟨?_, State.beginInternal_mark .., ?_, ?_⟩
    · rw [State.beginInternal_tracker, State.handDown_tracker, State.cutFrame_tracker]
      rfl
    · rw [State.beginInternal_down, State.handDown_tracker, State.cutFrame_tracker]
      rfl
    · rw [State.endOffers_eq s.cutFrame, State.cutFrame_tracker]
      exact State.beginInternal_noticed (first := []) (s.sameStaged_cutFrame (.frameClose s.tracker.frame.number))
        rfl rfl rfl time _
  · rw [State.loseVideo_between hstate]
    exact ⟨State.beginInternal_tracker .., State.beginInternal_mark .., State.beginInternal_down ..,
      State.beginInternal_noticed (first := []) (.refl s) rfl rfl rfl time _⟩

end Sys2Proof.Machine
end

/-! PROOFS. The lines of a frame: the composed line with its records, markers and pixels (R19, R28, R107, R126, R127),
the lines that are passed or discarded (R37, R38, R108, R110), and the internal lines (R118, R119). -/

section
namespace Sys2Proof.Machine

-- one theorem at a time, as in the tests: many threads' stacks at once exceed the check's memory limit
set_option Elab.async false

/-! ### The overrun record (R28) -/

theorem paneCount_eq_length_filter (set : PaneSet) :
    paneCount set = (([0, 1, 2, 3, 4, 5, 6, 7] : List Nat).filter (fun i => set.getLsbD i)).length := by
  have hnumbers : ([0, 1, 2, 3, 4, 5, 6, 7] : List Nat) = paneNumbers.map Fin.val := rfl
  rw [hnumbers, List.filter_map, List.length_map]
  rfl

theorem paneCount_eq_zero_iff (set : PaneSet) : paneCount set = 0 ↔ set = 0 := by
  rw [paneCount, List.length_eq_zero_iff, List.filter_eq_nil_iff]
  refine ⟨fun hnone => BitVec.eq_of_getLsbD_eq fun i hi => ?_, ?_⟩
  · have hflag : ¬ set.getLsbD i = true := hnone ⟨i, hi⟩ (mem_paneNumbers _)
    simpa using hflag
  · rintro rfl i -
    simp [paneIn]

theorem Overrun.record_eq (o : Overrun) (y : Nat) (skipped : PaneSet) :
    o.record y skipped = o.afterLine y skipped := by
  simp only [Overrun.record, Overrun.afterLine, ← paneCount_eq_length_filter, paneCount_eq_zero_iff]
  rfl

/-! ### Markers (R125 to R127) -/

theorem map_filter_eq_flatMap_if {α β : Type} (p : α → Bool) (f : α → β) (l : List α) :
    (l.filter p).map f = l.flatMap (fun a => if p a = true then [f a] else []) := by
  induction l with
  | nil => rfl
  | cons a l ih =>
    rw [List.flatMap_cons, ← ih]
    cases hp : p a
    · simp [hp]
    · simp [hp]

theorem MarkerAction.notifies_iff (a : MarkerAction) : a.notifies = true ↔ a = .notice ∨ a = .both := by
  cases a <;> decide

theorem MarkerAction.pulses_iff (a : MarkerAction) : a.pulses = true ↔ a = .pulse ∨ a = .both := by
  cases a <;> decide

/-- On a composed line a slot fires with an effect when its line is this one and its action has the effect (R125). -/
theorem State.fires_and_iff {s : State} {y w : Nat} (hcomposed : s.tracker.frame.composedWidth y = some w) (i : Fin 4)
    {effect : Bool} (heffect : effect = true → s.markers.active[i].action ≠ .off) :
    (s.fires y i && effect) = true ↔ s.markers.active[i].line = y ∧ effect = true := by
  simp only [State.fires, hcomposed, Option.isSome_some, Bool.true_and, Bool.and_eq_true, decide_eq_true_eq]
  tauto

theorem State.markerOffers_of_composed {s : State} {y w : Nat}
    (hcomposed : s.tracker.frame.composedWidth y = some w) : s.markerOffers y = s.markerNotices y := by
  rw [State.markerOffers, State.markerNotices, map_filter_eq_flatMap_if]
  refine List.flatMap_congr fun i _ => ?_
  have hnotifies := s.fires_and_iff hcomposed i (effect := s.markers.active[i].action.notifies)
    (by rintro h hoff; rw [hoff] at h; cases h)
  simp only [hnotifies, MarkerAction.notifies_iff]

theorem State.markLevel_of_composed {s : State} {y w : Nat}
    (hcomposed : s.tracker.frame.composedWidth y = some w) : s.markLevel y = s.marksLine y := by
  have hpulses := fun i : Fin 4 => s.fires_and_iff hcomposed i (effect := s.markers.active[i].action.pulses)
    (by rintro h hoff; rw [hoff] at h; cases h)
  have hmem : ∀ i : Fin 4, i ∈ slotNumbers := by decide
  rw [Bool.eq_iff_iff, State.markLevel, State.marksLine, List.any_eq_true, decide_eq_true_eq]
  simp only [hpulses, MarkerAction.pulses_iff, hmem, true_and]

theorem State.markerOffers_of_passed {s : State} {y : Nat} (hpassed : s.tracker.frame.composedWidth y = none) :
    s.markerOffers y = [] := by
  simp [State.markerOffers, State.fires, hpassed]

theorem State.markLevel_of_passed {s : State} {y : Nat} (hpassed : s.tracker.frame.composedWidth y = none) :
    s.markLevel y = false := by
  simp [State.markLevel, State.fires, hpassed]

/-! ### The active-line happening (R19, R89, R126, R127) -/

theorem State.activeLine_of_composed {s : State} {y w : Nat} (hcomposed : s.tracker.frame.composedWidth y = some w) :
    s.activeLine y = { s with
      compositor := ⟨admissionOf s.panes.active y w,
        s.compositor.overrun.afterLine y (admissionOf s.panes.active y w).skipped⟩
      markers := { s.markers with mark := s.marksLine y }
      writer := { s.writer with allowance := 1024 }
      up := s.afterNotices (s.markerNotices y) } := by
  rw [State.activeLine, State.offers_eq_afterNotices, State.markLevel_of_composed hcomposed,
    State.markerOffers_of_composed hcomposed, State.composeState, hcomposed]
  dsimp only
  rw [Overrun.record_eq]
  rfl

theorem State.activeLine_of_passed {s : State} {y : Nat} (hpassed : s.tracker.frame.composedWidth y = none) :
    s.activeLine y = { s with
      markers := { s.markers with mark := false }
      writer := { s.writer with allowance := 1024 } } := by
  rw [State.activeLine, State.markLevel_of_passed hpassed, State.markerOffers_of_passed hpassed, State.composeState,
    hpassed]
  rfl

/-! ### The pixels of a composed line (R21, R32, R36) -/

theorem View.composeFrom_length (v : View) (admitted : PaneSet) (y w x : Nat) (pixels : List Pixel) :
    (v.composeFrom admitted y w x pixels).length = pixels.length := by
  induction pixels generalizing x with
  | nil => rfl
  | cons p rest ih => rw [View.composeFrom, List.length_cons, ih, List.length_cons]

theorem View.composeFrom_getElem? (v : View) (admitted : PaneSet) (y w x i : Nat) (pixels : List Pixel) :
    (v.composeFrom admitted y w x pixels)[i]?
      = pixels[i]?.map (fun p => if x + i < w then v.composePixel admitted (x + i) y p else p) := by
  induction pixels generalizing x i with
  | nil => rfl
  | cons p rest ih =>
    cases i with
    | zero => rfl
    | succ i =>
      rw [View.composeFrom, List.getElem?_cons_succ, List.getElem?_cons_succ, ih,
        show x + 1 + i = x + (i + 1) by omega]

theorem State.composedPixel_eq (s : State) (y w x : Nat) (p : Pixel) :
    s.composedPixel y w x p
      = if x < w then s.view.composePixel (admissionOf s.panes.active y w).admitted x y p else p := rfl

theorem State.composedLine_of_composed {s : State} {y w : Nat}
    (hcomposed : s.tracker.frame.composedWidth y = some w) (pixels : List Pixel) :
    s.composesTo y w pixels (s.composedLine y pixels) := by
  rw [State.composedLine, hcomposed]
  refine ⟨View.composeFrom_length .., fun x p hp => ?_⟩
  rw [View.composeFrom_getElem?, hp, Nat.zero_add, State.composedPixel_eq, Option.map_some]

theorem State.composedLine_of_passed {s : State} {y : Nat} (hpassed : s.tracker.frame.composedWidth y = none)
    (pixels : List Pixel) : s.composedLine y pixels = pixels := by
  rw [State.composedLine, hpassed]

theorem FrameRecord.composedWidth_of_lt {f : FrameRecord} {y w h : Nat} (hkind : f.kind ≠ .passThrough)
    (hwidth : f.width = some w) (hlines : f.lines = some h) (hbelow : y < h) : f.composedWidth y = some w := by
  unfold FrameRecord.composedWidth
  rw [hwidth, hlines]
  cases hk : f.kind with
  | passThrough => exact absurd hk hkind
  | locked => exact if_pos hbelow
  | internal => exact if_pos hbelow

theorem FrameRecord.composedWidth_of_excess {f : FrameRecord} {y w h : Nat} (hkind : f.kind = .locked)
    (hwidth : f.width = some w) (hlines : f.lines = some h) (habove : h ≤ y) : f.composedWidth y = none := by
  unfold FrameRecord.composedWidth
  rw [hwidth, hlines, hkind]
  exact if_neg (Nat.not_lt.mpr habove)

theorem FrameRecord.composedWidth_of_passThrough {f : FrameRecord} (y : Nat) (hkind : f.kind = .passThrough) :
    f.composedWidth y = none := by
  unfold FrameRecord.composedWidth
  rw [hkind]

/-! ### LINE (R107) -/

theorem State.composesInvalid_of_valid {s : State} (hvalid : s.panes.activeValid = true) (y : Nat) :
    s.composesInvalid y = false := by
  rw [State.composesInvalid, hvalid, Bool.not_true, Bool.and_false]

theorem State.composesInvalid_of_passed {s : State} {y : Nat} (hpassed : s.tracker.frame.composedWidth y = none) :
    s.composesInvalid y = false := by
  rw [State.composesInvalid, hpassed, Option.isSome_none, Bool.false_and]

theorem exec_line_taken {s : State} {pixels : List Pixel} (hlen : pixels.length ≤ 2048)
    (hstate : s.tracker.state = .inFrame) (hvalid : s.composesInvalid s.tracker.frame.linesTaken = false) :
    exec (.line pixels) s = .next (s.takeLine pixels) := by
  rw [exec, execLine, if_neg (Nat.not_lt.mpr hlen), if_pos hstate, hvalid]
  rfl

theorem exec_line_stray {s : State} {pixels : List Pixel} (hlen : pixels.length ≤ 2048)
    (hstate : s.tracker.state ≠ .inFrame) : exec (.line pixels) s = .next s.discardStray := by
  rw [exec, execLine, if_neg (Nat.not_lt.mpr hlen), if_neg hstate]

theorem FrameRecord.lineFaults_of_lt {f : FrameRecord} {w h y : Nat} (hkind : f.kind = .locked)
    (hwidth : f.width = some w) (hlines : f.lines = some h) (hbelow : y < h) (n : Nat) (faults : FrameFaults) :
    f.lineFaults y n faults
      = if n = w then faults else { faults with width := min (faults.width + 1) 65535 } := by
  unfold FrameRecord.lineFaults
  rw [hkind, hwidth, hlines]
  dsimp only
  rw [if_neg (Nat.not_le.mpr hbelow), count16_eq_min, ite_not]

theorem FrameRecord.lineFaults_of_excess {f : FrameRecord} {w h y : Nat} (hkind : f.kind = .locked)
    (hwidth : f.width = some w) (hlines : f.lines = some h) (habove : h ≤ y) (n : Nat) (faults : FrameFaults) :
    f.lineFaults y n faults = { faults with excess := min (faults.excess + 1) 65535 } := by
  unfold FrameRecord.lineFaults
  rw [hkind, hwidth, hlines]
  dsimp only
  rw [if_pos habove, count16_eq_min]

theorem FrameRecord.lineFaults_of_passThrough {f : FrameRecord} (hkind : f.kind = .passThrough) (y n : Nat)
    (faults : FrameFaults) : f.lineFaults y n faults = faults := by
  unfold FrameRecord.lineFaults
  rw [hkind]

/-- Settles O51: the line is taken, composed, and handed over. -/
theorem linesBelowHAreComposed : Obligations.LinesBelowHAreComposed := by
  intro pixels s w h hlen hstate hkind hwidth hlines hbelow hvalid y
  have hcomposed : s.tracker.frame.composedWidth y = some w :=
    FrameRecord.composedWidth_of_lt (by rw [hkind]; decide) hwidth hlines hbelow
  refine ⟨_, s.composedLine y pixels, exec_line_taken hlen hstate (State.composesInvalid_of_valid hvalid _), ?_,
    State.composedLine_of_composed hcomposed pixels⟩
  have hactive := State.activeLine_of_composed (s := s.withTracker (s.tracker.takeLine pixels.length)) hcomposed
  rw [State.takeLine, hactive, Tracker.takeLine, FrameRecord.lineFaults_of_lt hkind hwidth hlines hbelow,
    count16_eq_min]
  rfl

/-! ### Passed lines, BLANK and strays (R37, R38, R108, R110) -/

theorem State.takeLine_of_passed {s : State}
    (hpassed : s.tracker.frame.composedWidth s.tracker.frame.linesTaken = none) (pixels : List Pixel) :
    s.takeLine pixels = { s with
      tracker := { s.tracker with
        frame := { s.tracker.frame with linesTaken := min (s.tracker.frame.linesTaken + 1) 65535 }
        faults := s.tracker.frame.lineFaults s.tracker.frame.linesTaken pixels.length s.tracker.faults }
      markers := { s.markers with mark := false }
      writer := { s.writer with allowance := 1024 }
      down := { s.down with waiting := s.down.waiting ++ [.line pixels] } } := by
  have hactive := State.activeLine_of_passed (s := s.withTracker (s.tracker.takeLine pixels.length)) hpassed
  rw [State.takeLine, hactive, Tracker.takeLine, State.composedLine_of_passed hpassed, count16_eq_min]
  rfl

theorem State.discardStray_between {s : State} (hstate : s.tracker.state = .betweenFrames) :
    s.discardStray = { s with tracker := { s.tracker with strays := min (s.tracker.strays + 1) 65535 } } := by
  rw [State.discardStray, Tracker.stray, if_pos hstate, count16_eq_min]
  rfl

theorem State.discardStray_inProgress {s : State} (hstate : s.tracker.state ≠ .betweenFrames) :
    s.discardStray = { s with tracker := { s.tracker with
      strays := min (s.tracker.strays + 1) 65535
      faults := { s.tracker.faults with strays := min (s.tracker.faults.strays + 1) 65535 } } } := by
  rw [State.discardStray, Tracker.stray, if_neg hstate, count16_eq_min, count16_eq_min]
  rfl

theorem exec_blank_between {s : State} (hstate : s.tracker.state = .betweenFrames) :
    exec .blank s = .next ((s.withTracker { s.tracker with
      blankCount := min (s.tracker.blankCount + 1) 65535 }).blankLine.handDown .blank) := by
  rw [exec, execBlank, hstate, count16_eq_min]

theorem exec_blank_inFrame {s : State} (hstate : s.tracker.state = .inFrame) :
    exec .blank s = .next (s.discardStray.blankLine.handDown .blank) := by
  rw [exec, execBlank, hstate]

theorem exec_blank_freeRun {s : State} (hstate : s.tracker.state = .freeRun) :
    exec .blank s = .next s.discardStray := by
  rw [exec, execBlank, hstate]

/-- Settles O52: the kinds of line that are not composed, BLANK by the tracker's state, and the strays. -/
theorem otherVideoIsPassedOrDiscarded : Obligations.OtherVideoIsPassedOrDiscarded := by
  refine ⟨?_, ?_⟩
  · intro pixels s hlen hstate next
    refine ⟨fun hkind => ?_, fun w h hkind hwidth hlines habove => ?_⟩
    · have hpassed := FrameRecord.composedWidth_of_passThrough s.tracker.frame.linesTaken hkind
      rw [exec_line_taken hlen hstate (State.composesInvalid_of_passed hpassed), State.takeLine_of_passed hpassed,
        FrameRecord.lineFaults_of_passThrough hkind]
    · have hpassed := FrameRecord.composedWidth_of_excess hkind hwidth hlines habove
      rw [exec_line_taken hlen hstate (State.composesInvalid_of_passed hpassed), State.takeLine_of_passed hpassed,
        FrameRecord.lineFaults_of_excess hkind hwidth hlines habove]
  · intro s lined strayed strayedInFrame
    refine ⟨fun hstate => ⟨?_, fun pixels hlen => ?_, fun number => ?_⟩, fun hstate => ?_,
      fun hstate => ⟨?_, fun pixels hlen => ?_, fun number => ?_⟩⟩
    · rw [exec_blank_between hstate]
      rfl
    · rw [exec_line_stray hlen (by rw [hstate]; decide), State.discardStray_between hstate]
    · rw [exec_frameClose_stray (by rw [hstate]; decide), State.discardStray_between hstate]
    · rw [exec_blank_inFrame hstate, State.discardStray_inProgress (by rw [hstate]; decide)]
      rfl
    · rw [exec_blank_freeRun hstate, State.discardStray_inProgress (by rw [hstate]; decide)]
    · rw [exec_line_stray hlen (by rw [hstate]; decide), State.discardStray_inProgress (by rw [hstate]; decide)]
    · rw [exec_frameClose_stray (by rw [hstate]; decide), State.discardStray_inProgress (by rw [hstate]; decide)]

/-! ### Internal lines (R118, R119) -/

theorem State.endSlot_of_more {s : State} {g : Generator} {lines : Nat} (hmore : g.slot + 1 < lines + g.blanks) :
    s.endSlot g lines
      = { s with tracker := { s.tracker with generator := some { g with slot := g.slot + 1 } } } := by
  rw [State.endSlot, if_neg (Nat.not_le.mpr hmore)]
  rfl

/-- The frame end of an internal frame and the start of the next (R118, R119). -/
def State.nextInternal (s : State) (time : Nat) : State :=
  (s.handDownIf s.commands.config.freeRun (.frameClose s.tracker.frame.number)).beginInternal time
    [s.faultOffers, s.overrunOffers]

theorem State.endSlot_of_last {s : State} {g : Generator} {lines : Nat} (hlast : lines + g.blanks ≤ g.slot + 1) :
    s.endSlot g lines = s.nextInternal (g.start + g.period) := by
  rw [State.endSlot, if_pos hlast]
  rfl

theorem State.handDownIf_sameStaged (s : State) (c : Bool) (p : DownPacket) : s.SameStaged (s.handDownIf c p) := by
  refine ⟨?_, ?_, ?_, ?_, ?_, ?_, ?_⟩ <;> simp

theorem State.nextInternal_frameStarted (s : State) (time : Nat) : s.frameStarted (s.nextInternal time) :=
  State.beginInternal_frameStarted (s.handDownIf_sameStaged _ _) ..

@[simp] theorem State.nextInternal_writer (s : State) (time : Nat) : (s.nextInternal time).writer = s.writer := by
  simp [State.nextInternal]

theorem State.nextInternal_mark (s : State) (time : Nat) : (s.nextInternal time).markers.mark = s.markers.mark := by
  rw [State.nextInternal, State.beginInternal_mark, State.handDownIf_markers]

/-- What the start of the next internal frame leaves alone, with the tracker and the packets it hands over. -/
theorem State.nextInternal_frame (s : State) (time : Nat) : s.nextInternal time = { s with
    tracker := s.tracker.internalBegun time
    panes := (s.nextInternal time).panes, palette := (s.nextInternal time).palette
    fade := (s.nextInternal time).fade, commitPending := false
    compositor := (s.nextInternal time).compositor, markers := (s.nextInternal time).markers
    up := (s.nextInternal time).up, orderings := (s.nextInternal time).orderings
    down := { s.down with waiting := s.down.waiting ++ if s.commands.config.freeRun then
      [.frameClose s.tracker.frame.number, .frameOpen (s.tracker.frame.number + 1)
        (BitVec.ofNat 16 s.tracker.timing.width) (BitVec.ofNat 16 s.tracker.timing.lines)] else [] } } := by
  have htracker : (s.nextInternal time).tracker = s.tracker.internalBegun time := by
    rw [State.nextInternal, State.beginInternal_tracker, State.handDownIf_tracker]
  have hdown : (s.nextInternal time).down = { s.down with waiting := s.down.waiting ++ if s.commands.config.freeRun then
      [.frameClose s.tracker.frame.number, .frameOpen (s.tracker.frame.number + 1)
        (BitVec.ofNat 16 s.tracker.timing.width) (BitVec.ofNat 16 s.tracker.timing.lines)] else [] } := by
    rw [State.nextInternal, State.beginInternal_down, State.handDownIf_down, State.handDownIf_commands,
      State.handDownIf_tracker]
    cases s.commands.config.freeRun <;> simp
  have hframe := State.eq_of_frame (s := s) (t := s.nextInternal time) (by simp [State.nextInternal])
    (by simp [State.nextInternal]) (by rw [State.nextInternal, State.beginInternal_commitPending])
    (by simp [State.nextInternal]) (by simp [State.nextInternal]) (by simp [State.nextInternal])
    (by simp [State.nextInternal])
  rw [← htracker, ← hdown]
  exact hframe

/-- Its notices, after `first`, which the line has already offered. -/
theorem State.nextInternal_noticed {s u : State} {first : List Offer} (haddress : u.address = s.address)
    (hcommands : u.commands = s.commands) (hstaged : s.SameStaged u) (hup : u.up = s.afterNotices first) (time : Nat) :
    s.noticed (u.nextInternal time) first
      (endNotices u.tracker.frame.number u.tracker.faults u.compositor.overrun []
        ++ s.startNotices (u.tracker.frame.number + 1) (u.nextInternal time).fade.level) := by
  have hhanded := u.handDownIf_sameStaged u.commands.config.freeRun (.frameClose u.tracker.frame.number)
  have hstaged' : s.SameStaged (u.handDownIf u.commands.config.freeRun (.frameClose u.tracker.frame.number)) :=
    ⟨hhanded.commitPending.trans hstaged.commitPending, hhanded.panes.trans hstaged.panes,
      hhanded.palette.trans hstaged.palette, hhanded.fade.trans hstaged.fade,
      hhanded.compositor.trans hstaged.compositor, hhanded.shadowMarkers.trans hstaged.shadowMarkers,
      hhanded.activeMarkers.trans hstaged.activeMarkers⟩
  have hnoticed := State.beginInternal_noticed (first := first) hstaged' (by simpa using haddress)
    (by simpa using hcommands) (by simpa using hup) time [u.faultOffers, u.overrunOffers]
  rw [State.endOffers_eq_nil, State.handDownIf_tracker] at hnoticed
  rw [State.nextInternal, State.endOffers_eq_nil]
  exact hnoticed

theorem exec_internalActiveLine_of_due {time h : Nat} {s : State} {g : Generator}
    (hgenerator : s.tracker.generator = some g) (hlines : s.tracker.frame.lines = some h) (hslot : g.slot < h)
    (hdue : g.start * (h + g.blanks) + (g.slot + 1) * g.period ≤ time * (h + g.blanks))
    (hvalid : s.panes.activeValid = true) :
    exec (.internalActiveLine time) s = .next (s.internalLine g h) := by
  rw [exec, execInternalActiveLine, hgenerator, hlines]
  dsimp only [Option.getD_some]
  rw [if_pos ⟨hslot, (Generator.slotEnded_iff ..).mpr hdue⟩, State.composesInvalid_of_valid hvalid]
  rfl

theorem exec_internalBlankingLine_of_due {time h : Nat} {s : State} {g : Generator}
    (hgenerator : s.tracker.generator = some g) (hlines : s.tracker.frame.lines = some h) (habove : h ≤ g.slot)
    (hslot : g.slot < h + g.blanks)
    (hdue : g.start * (h + g.blanks) + (g.slot + 1) * g.period ≤ time * (h + g.blanks)) :
    exec (.internalBlankingLine time) s = .next (s.internalBlank g h) := by
  rw [exec, execInternalBlankingLine, hgenerator, hlines]
  dsimp only [Option.getD_some]
  rw [if_pos ⟨habove, hslot, (Generator.slotEnded_iff ..).mpr hdue⟩]

/-- The part after an internal active line, its slot not yet ended: composed over the active background (R35). -/
def State.internalLined (s : State) (y w : Nat) : State := { s with
  tracker := { s.tracker with
    frame := { s.tracker.frame with linesTaken := min (s.tracker.frame.linesTaken + 1) 65535 } }
  compositor := ⟨admissionOf s.panes.active y w,
    s.compositor.overrun.afterLine y (admissionOf s.panes.active y w).skipped⟩
  markers := { s.markers with mark := s.marksLine y }
  writer := { s.writer with allowance := 1024 }
  up := s.afterNotices (s.markerNotices y)
  down := { s.down with waiting := s.down.waiting ++ if s.commands.config.freeRun then
    [.line (s.composedLine y (List.replicate w s.palette.activeBackground))] else [] } }

theorem State.eq_withDown_handDownIf (s : State) (c : Bool) (p : DownPacket) :
    s.handDownIf c p = { s with down := { s.down with waiting := s.down.waiting ++ if c then [p] else [] } } := by
  cases c with
  | false => simp [State.handDownIf]
  | true => rfl

theorem State.internalLine_eq {s : State} {g : Generator} {w : Nat} (hwidth : s.tracker.frame.width = some w)
    (hcomposed : s.tracker.frame.composedWidth g.slot = some w) (h : Nat) :
    s.internalLine g h = (s.internalLined g.slot w).endSlot g h := by
  have hactive := State.activeLine_of_composed (y := g.slot) (s := s.withTracker { s.tracker with
    frame := { s.tracker.frame with linesTaken := count16 s.tracker.frame.linesTaken } }) hcomposed
  rw [State.internalLine]
  dsimp only
  rw [hactive, hwidth, State.eq_withDown_handDownIf, count16_eq_min]
  rfl

/-- Settles O54: the slot's line, and after the last slot the frame end and the next internal frame. -/
theorem internalActiveLineIsComposed : Obligations.InternalActiveLineIsComposed := by
  intro time s g w h hgenerator hkind hwidth hlines hslot hdue hvalid y admission overrun number
  have hcomposed : s.tracker.frame.composedWidth y = some w :=
    FrameRecord.composedWidth_of_lt (by rw [hkind]; decide) hwidth hlines hslot
  have hexec := exec_internalActiveLine_of_due hgenerator hlines hslot hdue hvalid
  rw [State.internalLine_eq hwidth hcomposed] at hexec
  refine ⟨_, _, hexec, State.composedLine_of_composed hcomposed _, State.endSlot_writer .., ?_, fun hmore => ?_,
    fun hlast => ⟨?_, ?_, ?_⟩⟩
  · by_cases hmore : g.slot + 1 < h + g.blanks
    · rw [State.endSlot_of_more hmore]
      rfl
    · rw [State.endSlot_of_last (Nat.not_lt.mp hmore), State.nextInternal_mark]
      rfl
  · rw [State.endSlot_of_more hmore]
    rfl
  · rw [State.endSlot_of_last hlast]
    refine (State.nextInternal_frame ..).trans ?_
    cases hfreeRun : s.commands.config.freeRun
    · simp [State.internalLined, hfreeRun, Tracker.internalBegun]
    · simp [State.internalLined, hfreeRun, Tracker.internalBegun, y, number]
  · rw [State.endSlot_of_last hlast]
    exact State.nextInternal_frameStarted ..
  · rw [State.endSlot_of_last hlast]
    exact State.nextInternal_noticed (s := { s with compositor := ⟨admission, overrun⟩ })
      (u := s.internalLined y w) rfl rfl ⟨rfl, rfl, rfl, rfl, rfl, rfl, rfl⟩ rfl _

/-- The part after an internal blanking line, its slot not yet ended. -/
def State.internalBlanked (s : State) : State := { s with
  markers := { s.markers with mark := false }
  writer := { s.writer with allowance := 4096 }
  down := { s.down with waiting := s.down.waiting ++ if s.commands.config.freeRun then [.blank] else [] } }

theorem State.internalBlank_eq (s : State) (g : Generator) (h : Nat) :
    s.internalBlank g h = s.internalBlanked.endSlot g h := by
  rw [State.internalBlank, State.eq_withDown_handDownIf]
  rfl

/-- Settles O55: as O54, without a composed line. -/
theorem internalBlankingLineIsTaken : Obligations.InternalBlankingLineIsTaken := by
  intro time s g h hgenerator hlines habove hslot hdue number
  have hexec := exec_internalBlankingLine_of_due hgenerator hlines habove hslot hdue
  rw [State.internalBlank_eq] at hexec
  refine ⟨_, hexec, State.endSlot_writer .., ?_, fun hmore => ?_, fun hlast => ⟨?_, ?_, ?_⟩⟩
  · by_cases hmore : g.slot + 1 < h + g.blanks
    · rw [State.endSlot_of_more hmore]
      rfl
    · rw [State.endSlot_of_last (Nat.not_lt.mp hmore), State.nextInternal_mark]
      rfl
  · rw [State.endSlot_of_more hmore]
    rfl
  · rw [State.endSlot_of_last hlast.ge]
    refine (State.nextInternal_frame ..).trans ?_
    cases hfreeRun : s.commands.config.freeRun
    · simp [State.internalBlanked, hfreeRun]
    · simp [State.internalBlanked, hfreeRun, number]
  · rw [State.endSlot_of_last hlast.ge]
    exact State.nextInternal_frameStarted ..
  · rw [State.endSlot_of_last hlast.ge]
    exact State.nextInternal_noticed (u := s.internalBlanked) rfl rfl ⟨rfl, rfl, rfl, rfl, rfl, rfl, rfl⟩ rfl _

end Sys2Proof.Machine
end

/-! PROOFS. Admission in the line budget (R26), and the entry that a pane's lookup reads (R23, R31). -/

section
namespace Sys2Proof.Machine

-- one theorem at a time, as in the tests: many threads' stacks at once exceed the check's memory limit
set_option Elab.async false

/-! ### Admission (R26) -/

/-- The pane is a candidate of nonzero cost. -/
def ActivePane.counts (p : ActivePane) (y w : Nat) : Prop := p.fields.candidate y = true ∧ 0 < p.fields.cost w

/-- What the admitted panes of a list spend of the budget. -/
def spentBy (panes : Vector ActivePane 8) (w : Nat) (admitted : PaneSet) (l : List (Fin 8)) : Nat :=
  ((l.filter (fun j => admitted.getLsbD j.val)).map (fun j => panes[j].fields.cost w)).sum

theorem spentBy_cons (panes : Vector ActivePane 8) (w : Nat) (admitted : PaneSet) (i : Fin 8) (l : List (Fin 8)) :
    spentBy panes w admitted (i :: l)
      = (if admitted.getLsbD i.val = true then panes[i].fields.cost w else 0) + spentBy panes w admitted l := by
  unfold spentBy
  by_cases hi : admitted.getLsbD i.val = true
  · rw [List.filter_cons_of_pos (by exact hi), if_pos hi, List.map_cons, List.sum_cons]
  · rw [List.filter_cons_of_neg (by exact hi), if_neg hi, Nat.zero_add]

/-- What a list spends depends only on the flags of its own panes. -/
theorem spentBy_congr {panes : Vector ActivePane 8} {w : Nat} {a b : PaneSet} {l : List (Fin 8)}
    (h : ∀ j ∈ l, a.getLsbD j.val = b.getLsbD j.val) : spentBy panes w a l = spentBy panes w b l := by
  unfold spentBy
  rw [List.filter_congr h]

/-- The panes of `l`, considered from its end, have been admitted and skipped by R26, with this much budget left. -/
structure AdmittedBy (panes : Vector ActivePane 8) (y w : Nat) (l : List (Fin 8)) (r : Nat × Admission) : Prop where
  budget : r.1 + spentBy panes w r.2.admitted l = 4096
  admitted : ∀ i : Fin 8, r.2.admitted.getLsbD i.val = true ↔ i ∈ l ∧ panes[i].counts y w
    ∧ panes[i].fields.cost w + spentBy panes w r.2.admitted (l.filter (fun j => decide (i < j))) ≤ 4096
  skipped : ∀ i : Fin 8, r.2.skipped.getLsbD i.val = true ↔ i ∈ l ∧ panes[i].counts y w
    ∧ 4096 < panes[i].fields.cost w + spentBy panes w r.2.admitted (l.filter (fun j => decide (i < j)))

theorem admittedBy_nil (panes : Vector ActivePane 8) (y w : Nat) :
    AdmittedBy panes y w [] (Config.lineBudget, ⟨0, 0⟩) :=
  ⟨rfl, fun i => by simp, fun i => by simp⟩

/-- What considering one pane does to the flags and the budget. -/
theorem considerPane_flags (panes : Vector ActivePane 8) (y w : Nat) (r : Nat × Admission) (i : Fin 8) :
    (∀ j : Fin 8, (considerPane panes y w r i).2.admitted.getLsbD j.val = true ↔
      r.2.admitted.getLsbD j.val = true ∨ j = i ∧ panes[i].counts y w ∧ panes[i].fields.cost w ≤ r.1)
    ∧ (∀ j : Fin 8, (considerPane panes y w r i).2.skipped.getLsbD j.val = true ↔
      r.2.skipped.getLsbD j.val = true ∨ j = i ∧ panes[i].counts y w ∧ r.1 < panes[i].fields.cost w)
    ∧ ((panes[i].counts y w ∧ panes[i].fields.cost w ≤ r.1) →
      (considerPane panes y w r i).1 + panes[i].fields.cost w = r.1)
    ∧ (¬ (panes[i].counts y w ∧ panes[i].fields.cost w ≤ r.1) → (considerPane panes y w r i).1 = r.1) := by
  have hcounts : (panes[i].fields.candidate y = false ∨ panes[i].fields.cost w = 0) ↔ ¬ panes[i].counts y w := by
    simp only [ActivePane.counts, not_and_or, Bool.not_eq_true, Nat.not_lt, Nat.le_zero]
  have hflag : ∀ (set : PaneSet) (j : Fin 8),
      (set ||| paneFlag i).getLsbD j.val = true ↔ set.getLsbD j.val = true ∨ j = i := by
    intro set j
    rw [BitVec.getLsbD_or, paneFlag_getLsbD, Bool.or_eq_true, decide_eq_true_eq, eq_comm (a := i)]
  unfold considerPane
  dsimp only
  by_cases hc : panes[i].counts y w
  · rw [if_neg (hcounts.not.mpr (not_not.mpr hc))]
    by_cases hfits : panes[i].fields.cost w ≤ r.1
    · rw [if_pos hfits]
      simp only [hflag, hc, hfits, Nat.not_lt.mpr hfits, and_true, and_false, or_false,
        not_true_eq_false, false_implies, Nat.sub_add_cancel hfits, implies_true]
    · rw [if_neg hfits]
      simp only [hflag, hc, hfits, Nat.lt_of_not_le hfits, and_true, and_false, or_false,
        false_implies, implies_true]
  · rw [if_pos (hcounts.mpr hc)]
    simp only [hc, false_and, and_false, or_false, implies_true, false_implies, and_self]

/-- Considering the pane below those of `l`. -/
theorem AdmittedBy.cons {panes : Vector ActivePane 8} {y w : Nat} {l : List (Fin 8)} {r : Nat × Admission}
    (h : AdmittedBy panes y w l r) {i : Fin 8} (hbelow : ∀ j ∈ l, i < j) :
    AdmittedBy panes y w (i :: l) (considerPane panes y w r i) := by
  obtain ⟨hadmitted, hskipped, htaken, hkept⟩ := considerPane_flags panes y w r i
  have hnew : i ∉ l := fun hi => lt_irrefl i (hbelow i hi)
  have hadmittedNot : ¬ r.2.admitted.getLsbD i.val = true := fun hi => hnew ((h.admitted i).mp hi).1
  have hskippedNot : ¬ r.2.skipped.getLsbD i.val = true := fun hi => hnew ((h.skipped i).mp hi).1
  have hsame : ∀ l' : List (Fin 8), i ∉ l' →
      spentBy panes w (considerPane panes y w r i).2.admitted l' = spentBy panes w r.2.admitted l' := by
    intro l' hi
    refine spentBy_congr fun j hj => ?_
    rw [Bool.eq_iff_iff, hadmitted]
    exact or_iff_left fun hji => hi (hji.1 ▸ hj)
  have habove : ∀ k, k ∈ l → spentBy panes w (considerPane panes y w r i).2.admitted
      ((i :: l).filter (fun j => decide (k < j)))
        = spentBy panes w r.2.admitted (l.filter (fun j => decide (k < j))) := by
    intro k hk
    rw [List.filter_cons_of_neg (by simpa using (hbelow k hk).le)]
    exact hsame _ fun hi => hnew (List.mem_of_mem_filter hi)
  have haboveSelf : spentBy panes w (considerPane panes y w r i).2.admitted
      ((i :: l).filter (fun j => decide (i < j))) = spentBy panes w r.2.admitted l := by
    rw [List.filter_cons_of_neg (by simp), List.filter_eq_self.mpr (by simpa using hbelow)]
    exact hsame l hnew
  have hbudget := h.budget
  refine ⟨?_, fun k => ?_, fun k => ?_⟩
  · rw [spentBy_cons, hsame l hnew]
    by_cases htakes : panes[i].counts y w ∧ panes[i].fields.cost w ≤ r.1
    · rw [if_pos ((hadmitted i).mpr (.inr ⟨rfl, htakes⟩))]
      have hspent := htaken htakes
      omega
    · rw [if_neg (mt (hadmitted i).mp (not_or.mpr ⟨hadmittedNot, fun htaken => htakes htaken.2⟩)), hkept htakes]
      omega
  · rw [hadmitted k]
    by_cases hki : k = i
    · subst hki
      rw [haboveSelf, show panes[k].fields.cost w + spentBy panes w r.2.admitted l ≤ 4096
        ↔ panes[k].fields.cost w ≤ r.1 by omega]
      simp only [List.mem_cons_self, true_and, or_iff_right hadmittedNot]
    · simp only [hki, false_and, or_false, List.mem_cons, false_or, h.admitted k]
      exact and_congr_right fun hk => by rw [habove k hk]
  · rw [hskipped k]
    by_cases hki : k = i
    · subst hki
      rw [haboveSelf, show 4096 < panes[k].fields.cost w + spentBy panes w r.2.admitted l
        ↔ r.1 < panes[k].fields.cost w by omega]
      simp only [List.mem_cons_self, true_and, or_iff_right hskippedNot]
    · simp only [hki, false_and, or_false, List.mem_cons, false_or, h.skipped k]
      exact and_congr_right fun hk => by rw [habove k hk]

theorem admittedBy_foldr (panes : Vector ActivePane 8) (y w : Nat) {l : List (Fin 8)} (hsorted : l.Pairwise (· < ·)) :
    AdmittedBy panes y w l
      (l.foldr (fun i r => considerPane panes y w r i) (Config.lineBudget, ⟨0, 0⟩)) := by
  induction hsorted with
  | nil => exact admittedBy_nil panes y w
  | cons hbelow _ ih => exact ih.cons hbelow

theorem paneNumbers_sorted : paneNumbers.Pairwise (· < ·) := by decide

/-- Admission of a line, by R26. -/
theorem exists_admittedBy (panes : Vector ActivePane 8) (y w : Nat) :
    ∃ left, AdmittedBy panes y w paneNumbers (left, admissionOf panes y w) := by
  have hall := admittedBy_foldr panes y w paneNumbers_sorted
  rw [← List.foldl_reverse] at hall
  exact ⟨_, hall⟩

theorem PaneRec.cost_le_width (p : PaneRec) (w : Nat) : p.cost w ≤ p.width := by
  unfold PaneRec.cost
  split
  · exact Nat.zero_le _
  · exact Nat.min_le_left ..

/-- A sum over 2,048 of costs up to 2,048 has two summands. -/
theorem exists_two_of_lt_sum {cost : Fin 8 → Nat} (hcost : ∀ i, cost i ≤ 2048) {l : List (Fin 8)} (hnodup : l.Nodup)
    (hsum : 2048 < (l.map cost).sum) : ∃ j ∈ l, ∃ k ∈ l, j ≠ k := by
  match l, hnodup, hsum with
  | [j], _, hsum =>
    have hj := hcost j
    simp only [List.map_cons, List.map_nil, List.sum_cons, List.sum_nil] at hsum
    omega
  | j :: k :: rest, hnodup, _ =>
    have hjk : j ≠ k := fun heq => (List.nodup_cons.mp hnodup).1 (heq ▸ List.mem_cons_self)
    exact ⟨j, List.mem_cons_self, k, List.mem_cons_of_mem _ List.mem_cons_self, hjk⟩

/-- Settles O58: the admission rule, the budget, and that a skipped pane has two admitted panes above it. -/
theorem admissionFillsTheBudgetFromTheTop : Obligations.AdmissionFillsTheBudgetFromTheTop := by
  intro panes y w a all counts above
  obtain ⟨left, hbudget, hadmitted, hskipped⟩ := exists_admittedBy panes y w
  have habove : ∀ i, spentBy panes w a.admitted (paneNumbers.filter (fun j => decide (i < j))) = above i := by
    intro i
    rw [spentBy, List.filter_filter]
    simp only [Bool.and_comm]
    rfl
  have hrule : ∀ i : Fin 8,
      (a.admitted.getLsbD i.val = true ↔ counts i ∧ panes[i].fields.cost w + above i ≤ 4096)
      ∧ (a.skipped.getLsbD i.val = true ↔ counts i ∧ 4096 < panes[i].fields.cost w + above i) := by
    intro i
    have hin := hadmitted i
    have hout := hskipped i
    rw [habove i] at hin hout
    exact ⟨hin.trans (and_iff_right (mem_paneNumbers i)), hout.trans (and_iff_right (mem_paneNumbers i))⟩
  refine ⟨hrule, Nat.le.intro ((Nat.add_comm ..).trans hbudget), fun hwidths htwo => ?_⟩
  have hcost : ∀ i : Fin 8, panes[i].fields.cost w ≤ 2048 := fun i =>
    (PaneRec.cost_le_width _ w).trans (hwidths i)
  refine BitVec.eq_of_getLsbD_eq fun i hi => ?_
  have hnot : ¬ a.skipped.getLsbD i = true := by
    intro hskip
    obtain ⟨hcounts, hover⟩ := ((hrule ⟨i, hi⟩).2).mp hskip
    have hsum : 2048 < above ⟨i, hi⟩ := by
      have hself := hcost ⟨i, hi⟩
      omega
    obtain ⟨j, hj, k, hk, hjk⟩ := exists_two_of_lt_sum hcost (List.Nodup.filter _ (by decide)) hsum
    obtain ⟨-, hj⟩ := List.mem_filter.mp hj
    obtain ⟨-, hk⟩ := List.mem_filter.mp hk
    simp only [Bool.and_eq_true, decide_eq_true_eq] at hj hk
    have hjcounts := ((hrule j).1.mp hj.2).1
    have hkcounts := ((hrule k).1.mp hk.2).1
    rcases htwo ⟨i, hi⟩ j k hcounts hjcounts hkcounts with heq | heq | heq
    · exact hj.1.ne heq
    · exact hjk heq
    · exact hk.1.ne heq
  simpa using hnot

/-! ### Lookup (R23, R31) -/

/-- The scroll map stays below the extent that the descriptor's parts fill. -/
theorem scrollMap_lt {d : Scroll} {o i n : Nat} (hfits : d.lead + d.band ≤ n) (hi : i < n) : scrollMap d o i < n := by
  by_cases hband : d.InBand i
  · exact Nat.lt_of_lt_of_le (scrollMap_inBand o hband).2 hfits
  · rwa [scrollMap_of_not_inBand o hband]

theorem PaneRec.scrollValid_vertical {p : PaneRec} (hvalid : p.scrollValid = true) (haxis : p.scroll.axis = .vertical) :
    p.scroll.lead + p.scroll.band ≤ p.height := by
  simp only [PaneRec.scrollValid, haxis, decide_eq_true_eq] at hvalid
  omega

theorem PaneRec.scrollValid_horizontal {p : PaneRec} (hvalid : p.scrollValid = true)
    (haxis : p.scroll.axis = .horizontal) : p.scroll.lead + p.scroll.band ≤ p.width := by
  simp only [PaneRec.scrollValid, haxis, decide_eq_true_eq] at hvalid
  omega

theorem PaneRec.valid_iff (p : PaneRec) : p.valid = true ↔
    (p.screenX ≤ 2047 ∧ p.screenY ≤ 2047 ∧ (p.hscale = 1 ∨ p.hscale = 2) ∧ (p.vscale = 1 ∨ p.vscale = 2)
      ∧ p.opacity ≤ 16) ∧ footprintValid p.base p.stride p.width p.height = true ∧ p.scrollValid = true := by
  rw [PaneRec.valid, Bool.and_eq_true, Bool.and_eq_true, decide_eq_true_eq, and_assoc]

theorem footprintValid_iff (base stride width height : Nat) : footprintValid base stride width height = true ↔
    (1 ≤ width ∧ width ≤ 2048 ∧ 1 ≤ height ∧ height ≤ 2048 ∧ width ≤ stride ∧ stride ≤ 2048 ∧ base < 262144)
      ∧ base + (height - 1) * stride + width ≤ 262144 := by
  rw [footprintValid, footprintFits, Bool.and_eq_true, decide_eq_true_eq, decide_eq_true_eq, Config.storeEntries]

/-- A position of a footprint lies in the index store. -/
theorem footprint_address_lt {base stride width height column row : Nat}
    (hvalid : footprintValid base stride width height = true) (hcolumn : column < width) (hrow : row < height) :
    base + row * stride + column < 262144 := by
  obtain ⟨-, hfits⟩ := (footprintValid_iff ..).mp hvalid
  have hrows : row * stride ≤ (height - 1) * stride := Nat.mul_le_mul_right _ (by omega)
  omega

theorem ActivePane.valid_fields {p : ActivePane} (hvalid : p.valid = true) : p.fields.valid = true := by
  rw [ActivePane.valid, Bool.and_eq_true] at hvalid
  exact hvalid.1

/-- A display index inside the extent is mapped inside it, whichever axis scrolls. -/
theorem ActivePane.memoryRow_lt {p : ActivePane} {y : Nat} (hvalid : p.fields.valid = true)
    (hcandidate : p.fields.candidate y = true) : p.memoryRow y < p.fields.height := by
  obtain ⟨⟨-, -, -, hvscale, -⟩, -, hscroll⟩ := p.fields.valid_iff.mp hvalid
  simp only [PaneRec.candidate, Bool.and_eq_true, decide_eq_true_eq] at hcandidate
  obtain ⟨-, htop, hbottom⟩ := hcandidate
  have hdisplay : (y - p.fields.screenY) / p.fields.vscale < p.fields.height :=
    (Nat.div_lt_iff_lt_mul (by omega)).mpr (by omega)
  simp only [ActivePane.memoryRow]
  split
  · next haxis => exact scrollMap_lt (PaneRec.scrollValid_vertical hscroll haxis) hdisplay
  · exact hdisplay

theorem ActivePane.memoryColumn_lt {p : ActivePane} {x : Nat} (hvalid : p.fields.valid = true)
    (hright : x < p.fields.screenX + p.fields.width * p.fields.hscale) (hleft : p.fields.screenX ≤ x) :
    p.memoryColumn x < p.fields.width := by
  obtain ⟨⟨-, -, hhscale, -, -⟩, -, hscroll⟩ := p.fields.valid_iff.mp hvalid
  have hdisplay : (x - p.fields.screenX) / p.fields.hscale < p.fields.width :=
    (Nat.div_lt_iff_lt_mul (by omega)).mpr (by omega)
  simp only [ActivePane.memoryColumn]
  split
  · next haxis => exact scrollMap_lt (PaneRec.scrollValid_horizontal hscroll haxis) hdisplay
  · exact hdisplay

/-- Settles O59: outside the span nothing; inside it the entry at the memory row and column, which the footprint rule
keeps inside the store. -/
theorem lookupStaysInTheFootprint : Obligations.LookupStaysInTheFootprint := by
  intro p palette store x y hvalid hcandidate
  have hfields := ActivePane.valid_fields hvalid
  refine ⟨fun hout => ?_, fun hleft hright => ?_⟩
  · rw [contribution, if_pos hout]
  · have hrow := ActivePane.memoryRow_lt hfields hcandidate
    have hcolumn := ActivePane.memoryColumn_lt hfields hright hleft
    refine ⟨hrow, hcolumn, footprint_address_lt (p.fields.valid_iff.mp hfields).2.1 hcolumn hrow, ?_⟩
    rw [contribution, if_neg (by omega)]
    rfl

end Sys2Proof.Machine
end

/-! PROOFS. The store writer (Chapter 6): how a job starts (R85, R88, R93 to R95), what the hand-over of a store
command does (R86, R87), and the order in which the cursor visits a window (R83, R84). -/

section
namespace Sys2Proof.Machine

-- one theorem at a time, as in the tests: many threads' stacks at once exceed the check's memory limit
set_option Elab.async false

/-! ### The checks of a job (Table 6-2, R88) -/

theorem orderOf_eq_none_iff (b : Byte) : orderOf b = none ↔ b ≠ 0 ∧ b ≠ 1 := by
  rw [orderOf]
  by_cases h0 : b = 0
  · rw [if_pos h0]
    exact ⟨nofun, fun h => absurd h0 h.1⟩
  by_cases h1 : b = 1
  · rw [if_neg h0, if_pos h1]
    exact ⟨nofun, fun h => absurd h1 h.2⟩
  · rw [if_neg h0, if_neg h1]
    exact ⟨fun _ => ⟨h0, h1⟩, fun _ => rfl⟩

/-- The checks of Table 6-2 in order. -/
theorem windowCheck_eq (p : WindowParams) :
    windowCheck p = firstFailed
      [decide (p.width = 0 ∨ 2048 < p.width.toNat ∨ p.height = 0 ∨ 2048 < p.height.toNat),
       decide (p.stride.toNat < p.width.toNat ∨ 2048 < p.stride.toNat),
       decide (p.order ≠ 0 ∧ p.order ≠ 1),
       decide (262143 < p.base.toNat),
       decide (262143 < p.base.toNat + (p.height.toNat - 1) * p.stride.toNat + p.width.toNat - 1)] := by
  simp only [firstFailed_cons, firstFailed_nil, decide_eq_true_eq, apply_ite (Option.map _), Option.map_some,
    Option.map_none, Nat.reduceAdd, half_eq_zero_iff, windowCheck, orderOf_eq_none_iff, not_footprintFits_iff]
  rfl

/-- What a WINDOW that passes its checks satisfies. -/
theorem of_windowCheck_none {p : WindowParams} (h : windowCheck p = none) :
    footprintValid p.base.toNat p.stride.toNat p.width.toNat p.height.toNat = true
      ∧ orderOf p.order ≠ none := by
  unfold windowCheck at h
  dsimp only at h
  split at h
  · cases h
  split at h
  · cases h
  split at h
  · cases h
  split at h
  · cases h
  split at h
  · cases h
  next hsize hstride horder hbase hfits =>
    rw [Config.storeEntries] at hbase
    rw [not_footprintFits_iff] at hfits
    refine ⟨(footprintValid_iff ..).mpr ⟨?_, ?_⟩, horder⟩ <;> omega

theorem windowOf_valid {p : WindowParams} (h : windowCheck p = none) : (windowOf p).valid = true :=
  (of_windowCheck_none h).1

theorem windowOf_eq {p : WindowParams} (h : windowCheck p = none) :
    windowOf p = ⟨p.base.toNat, p.stride.toNat, p.width.toNat, p.height.toNat,
      if p.order = 0 then .rowFirst else .columnFirst⟩ := by
  have horder := (of_windowCheck_none h).2
  rw [ne_eq, orderOf_eq_none_iff] at horder
  rw [windowOf, orderOf]
  by_cases h0 : p.order = 0
  · rw [if_pos h0, if_pos h0]
    rfl
  · have h1 : p.order = 1 := by
      by_contra h1
      exact horder ⟨h0, h1⟩
    rw [if_neg h0, if_neg h0, if_pos h1]
    rfl

theorem firstBadRun_eq (runs : List Run) :
    firstBadRun runs = runs.findIdx? (fun r => decide (r.count = 0 ∨ 256 < r.count.toNat)) := by
  simp only [firstBadRun, half_eq_zero_iff]

theorem firstBadRun_eq_none_iff (runs : List Run) :
    firstBadRun runs = none ↔ ∀ r ∈ runs, 1 ≤ r.count.toNat ∧ r.count.toNat ≤ 256 := by
  simp only [firstBadRun, List.findIdx?_eq_none_iff, decide_eq_false_iff_not]
  exact forall₂_congr fun r _ => by omega

theorem pixelsOf_runList (runs : List Run) :
    pixelsOf (runList runs) = (runs.map (fun r => r.count.toNat)).sum := by
  rw [pixelsOf, runList, List.map_map]
  rfl

/-- A WRITE whose runs pass the range check has a pixel. -/
theorem pixelsOf_runList_ne_zero {runs : List Run} (hruns : runs ≠ []) (hgood : firstBadRun runs = none) :
    pixelsOf (runList runs) ≠ 0 := by
  rw [firstBadRun_eq_none_iff] at hgood
  cases runs with
  | nil => exact absurd rfl hruns
  | cons r rest =>
    have hr := hgood r List.mem_cons_self
    rw [pixelsOf_runList, List.map_cons, List.sum_cons]
    omega

/-! ### The start of a job, case by case (R85, R88, R93 to R95) -/

theorem StoreWriter.startJob_window_refused {p : WindowParams} {n : Nat} (hcheck : windowCheck p = some n)
    (w : StoreWriter) : w.startJob (.window p) = (w, .ended ⟨.refusedRange, none, [byte1 n]⟩) := by
  rw [StoreWriter.startJob, hcheck]

theorem StoreWriter.startJob_window_done {p : WindowParams} (hcheck : windowCheck p = none) (w : StoreWriter) :
    w.startJob (.window p) = ({ w with
      window := some ⟨p.base.toNat, p.stride.toNat, p.width.toNat, p.height.toNat,
        if p.order = 0 then .rowFirst else .columnFirst⟩
      cursor := some (.pos 0 0) }, .ended ⟨.done, none, bytes3 (p.width.toNat * p.height.toNat)⟩) := by
  rw [StoreWriter.startJob, hcheck]
  dsimp only
  rw [windowOf_eq hcheck]
  rfl

theorem StoreWriter.startJob_write_refused {runs : List Run} {i : Nat} (hbad : firstBadRun runs = some i)
    (w : StoreWriter) : w.startJob (.write runs) = (w, .ended ⟨.refusedRange, none, [1, byte1 i]⟩) := by
  rw [StoreWriter.startJob, hbad]

theorem StoreWriter.startJob_write_noWindow {runs : List Run} (hgood : firstBadRun runs = none) {w : StoreWriter}
    (hwindow : w.window = none) : w.startJob (.write runs) = (w, .ended ⟨.refusedNoWindow, none, []⟩) := by
  rw [StoreWriter.startJob, hgood]
  dsimp only
  rw [hwindow]

theorem StoreWriter.startJob_write_exhausted {runs : List Run} (hgood : firstBadRun runs = none) {w : StoreWriter}
    (hwindow : w.window ≠ none) (hcursor : w.cursor = some .exhausted) :
    w.startJob (.write runs)
      = (w, .ended ⟨.done, some .exhausted, [0, 0] ++ bytes2 (runs.map (fun r => r.count.toNat)).sum⟩) := by
  obtain ⟨win, hwin⟩ := Option.ne_none_iff_exists'.mp hwindow
  rw [StoreWriter.startJob, hgood]
  dsimp only
  rw [hwin]
  dsimp only
  rw [if_pos (.inl hcursor), hcursor, pixelsOf_runList]
  rfl

theorem StoreWriter.startJob_write_runs {runs : List Run} (hgood : firstBadRun runs = none) (hruns : runs ≠ [])
    {w : StoreWriter} (hwindow : w.window ≠ none) (hcursor : w.cursor ≠ some .exhausted) :
    w.startJob (.write runs) = (w, .goesOn (.write (runs.map (fun r => (r.value, r.count.toNat))) 0)) := by
  obtain ⟨win, hwin⟩ := Option.ne_none_iff_exists'.mp hwindow
  rw [StoreWriter.startJob, hgood]
  dsimp only
  rw [hwin]
  dsimp only
  rw [if_neg (not_or.mpr ⟨hcursor, pixelsOf_runList_ne_zero hruns hgood⟩)]
  rfl

theorem StoreWriter.startJob_fill_noWindow {w : StoreWriter} (hwindow : w.window = none) (value : Byte) :
    w.startJob (.fill value) = (w, .ended ⟨.refusedNoWindow, none, []⟩) := by
  rw [StoreWriter.startJob, hwindow]

theorem StoreWriter.startJob_fill_runs {w : StoreWriter} {win : Window} (hwindow : w.window = some win)
    (value : Byte) :
    w.startJob (.fill value) = ({ w with cursor := some (.pos 0 0) }, .goesOn (.fill value win 0)) := by
  rw [StoreWriter.startJob, hwindow]

theorem StoreWriter.startJob_read_refused {count : Byte} (hcount : count = 0 ∨ 240 < count.toNat) (w : StoreWriter) :
    w.startJob (.read count) = (w, .ended ⟨.refusedRange, none, [1]⟩) := by
  rw [byte_eq_zero_iff] at hcount
  rw [StoreWriter.startJob, if_pos hcount]

theorem StoreWriter.startJob_read_noWindow {count : Byte} (hcount : ¬ (count = 0 ∨ 240 < count.toNat))
    {w : StoreWriter} (hwindow : w.window = none) :
    w.startJob (.read count) = (w, .ended ⟨.refusedNoWindow, none, []⟩) := by
  rw [byte_eq_zero_iff] at hcount
  rw [StoreWriter.startJob, if_neg hcount, hwindow]

theorem StoreWriter.startJob_read_exhausted {count : Byte} (hcount : ¬ (count = 0 ∨ 240 < count.toNat))
    {w : StoreWriter} (hwindow : w.window ≠ none) (hcursor : w.cursor = some .exhausted) :
    w.startJob (.read count) = (w, .ended ⟨.done, some .exhausted, []⟩) := by
  obtain ⟨win, hwin⟩ := Option.ne_none_iff_exists'.mp hwindow
  rw [byte_eq_zero_iff] at hcount
  rw [StoreWriter.startJob, if_neg hcount, hwin]
  dsimp only
  rw [if_pos hcursor, hcursor]

theorem StoreWriter.startJob_read_runs {count : Byte} (hcount : ¬ (count = 0 ∨ 240 < count.toNat))
    {w : StoreWriter} (hwindow : w.window ≠ none) (hcursor : w.cursor ≠ some .exhausted) :
    w.startJob (.read count) = (w, .goesOn (.read count.toNat [])) := by
  obtain ⟨win, hwin⟩ := Option.ne_none_iff_exists'.mp hwindow
  rw [byte_eq_zero_iff] at hcount
  rw [StoreWriter.startJob, if_neg hcount, hwin]
  dsimp only
  rw [if_neg hcursor]

/-! ### The start of waiting jobs (R86, R90) -/

theorem State.endJob_jobAnswered {s u : State} (haddress : u.address = s.address) (hcommands : u.commands = s.commands)
    (hup : u.up = s.up) (tag : Half) (code : Byte) (e : Ending) :
    s.jobAnswered (u.endJob tag code e) tag code e.status e.cursor e.payload := by
  rw [State.endJob_eq, State.jobAnswered, State.answerJobs, haddress, hcommands, hup]
  exact ⟨rfl, rfl⟩

theorem State.startNext_nil {s : State} (hjobs : s.writer.jobs = []) :
    s.startNext = { s with writer := { s.writer with running := none } } := by
  rw [State.startNext, hjobs, State.startJobs, ← hjobs]
  rfl

theorem State.startNext_idle {s : State} (hjobs : s.writer.jobs = []) (hrunning : s.writer.running = none) :
    s.startNext = s := by
  rw [State.startNext_nil hjobs, ← hrunning]

/-- A job that ends at its start: its reply, and the start of the next. -/
theorem State.startEnds_of_ended {s : State} {j : Job} {rest : List Job} {window : Option Window}
    {cursor : Option Cursor} {e : Ending} (hjobs : s.writer.jobs = j :: rest)
    (hstart : ({ s.writer with jobs := rest, running := none } : StoreWriter).startJob j.work
      = ({ s.writer with jobs := rest, running := none, window := window, cursor := cursor }, .ended e)) :
    s.startEnds j rest window cursor (workCode j.work) e.status e.cursor e.payload := by
  refine ⟨(s.withWriter { s.writer with
    jobs := rest, running := none, window := window, cursor := cursor }).endJob j.tag (workCode j.work) e, ?_,
    State.endJob_jobAnswered rfl rfl rfl .., ?_⟩
  · rw [State.endJob_eq]
    rfl
  · rw [State.startNext, hjobs, State.startJobs, hstart]
    rfl

/-- A job that runs from its start. -/
theorem State.startNext_of_goesOn {s : State} {j : Job} {rest : List Job} {cursor : Option Cursor} {p : Progress}
    (hjobs : s.writer.jobs = j :: rest)
    (hstart : ({ s.writer with jobs := rest, running := none } : StoreWriter).startJob j.work
      = ({ s.writer with jobs := rest, running := none, cursor := cursor }, .goesOn p)) :
    s.startNext = { s with
      writer := { s.writer with jobs := rest, cursor := cursor, running := some ⟨j.tag, p⟩ } } := by
  rw [State.startNext, hjobs, State.startJobs, hstart]
  rfl

/-- What the start of waiting jobs does, by the oldest job's work. -/
theorem State.startNext_cons (s : State) (j : Job) (rest : List Job) (hjobs : s.writer.jobs = j :: rest) :
    let refused (code : Byte) (status : Status) (payload : List Byte) : Prop :=
      s.startEnds j rest s.writer.window s.writer.cursor code status none payload
    let runs (cursor : Option Cursor) (p : Progress) : Prop := s.startNext = { s with
      writer := { s.writer with jobs := rest, cursor := cursor, running := some ⟨j.tag, p⟩ } }
    (∀ p, j.work = .window p →
      (∀ k, windowCheck p = some k → refused 0x10 .refusedRange [byte1 k])
      ∧ (windowCheck p = none → s.startEnds j rest
          (some ⟨p.base.toNat, p.stride.toNat, p.width.toNat, p.height.toNat,
            if p.order = 0 then .rowFirst else .columnFirst⟩)
          (some (.pos 0 0)) 0x10 .done none (bytes3 (p.width.toNat * p.height.toNat))))
    ∧ (∀ list : List Run, j.work = .write list → list ≠ [] →
      (∀ i, firstBadRun list = some i → refused 0x11 .refusedRange [1, byte1 i])
      ∧ (firstBadRun list = none →
        if s.writer.window = none then refused 0x11 .refusedNoWindow []
        else if s.writer.cursor = some .exhausted then
          s.startEnds j rest s.writer.window s.writer.cursor 0x11 .done (some .exhausted)
            ([0, 0] ++ bytes2 (list.map (fun r => r.count.toNat)).sum)
        else runs s.writer.cursor (.write (list.map (fun r => (r.value, r.count.toNat))) 0)))
    ∧ (∀ value, j.work = .fill value →
      (s.writer.window = none → refused 0x12 .refusedNoWindow [])
      ∧ (∀ win, s.writer.window = some win → runs (some (.pos 0 0)) (.fill value win 0)))
    ∧ (∀ count, j.work = .read count →
      if count = 0 ∨ 240 < count.toNat then refused 0x13 .refusedRange [1]
      else if s.writer.window = none then refused 0x13 .refusedNoWindow []
      else if s.writer.cursor = some .exhausted then
        s.startEnds j rest s.writer.window s.writer.cursor 0x13 .done (some .exhausted) []
      else runs s.writer.cursor (.read count.toNat [])) := by
  obtain ⟨tag, work⟩ := j
  intro refused runs
  refine ⟨?_, ?_, ?_, ?_⟩
  · rintro p rfl
    exact ⟨fun k hcheck => State.startEnds_of_ended hjobs (StoreWriter.startJob_window_refused hcheck _),
      fun hcheck => State.startEnds_of_ended hjobs (StoreWriter.startJob_window_done hcheck _)⟩
  · rintro list rfl hlist
    refine ⟨fun i hbad => State.startEnds_of_ended hjobs (StoreWriter.startJob_write_refused hbad _), fun hgood => ?_⟩
    split
    · next hwindow => exact State.startEnds_of_ended hjobs (StoreWriter.startJob_write_noWindow hgood hwindow)
    split
    · next hwindow hcursor =>
      exact State.startEnds_of_ended hjobs (StoreWriter.startJob_write_exhausted hgood hwindow hcursor)
    · next hwindow hcursor =>
      exact State.startNext_of_goesOn hjobs (StoreWriter.startJob_write_runs hgood hlist hwindow hcursor)
  · rintro value rfl
    exact ⟨fun hwindow => State.startEnds_of_ended hjobs
        (StoreWriter.startJob_fill_noWindow (w := { s.writer with jobs := rest, running := none }) hwindow value),
      fun win hwindow => State.startNext_of_goesOn hjobs
        (StoreWriter.startJob_fill_runs (w := { s.writer with jobs := rest, running := none }) hwindow value)⟩
  · rintro count rfl
    split
    · next hcount => exact State.startEnds_of_ended hjobs (StoreWriter.startJob_read_refused hcount _)
    next hcount =>
    split
    · next hwindow => exact State.startEnds_of_ended hjobs (StoreWriter.startJob_read_noWindow hcount hwindow)
    next hwindow =>
    split
    · next hcursor =>
      exact State.startEnds_of_ended hjobs (StoreWriter.startJob_read_exhausted hcount hwindow hcursor)
    · next hcursor =>
      exact State.startNext_of_goesOn hjobs (StoreWriter.startJob_read_runs hcount hwindow hcursor)

/-! ### The hand-over of a store command (R86, R87) -/

theorem requestClass_of_storeWork {r : Request} {k : Work} (hwork : storeWork r = some k) :
    requestClass r = .store ∧ requestCode r = workCode k := by
  cases r <;> cases hwork <;> exact ⟨rfl, rfl⟩

theorem State.takeEntry_store {r : Request} {k : Work} (hwork : storeWork r = some k) (s : State) (time : Nat)
    (tag : Half) : s.takeEntry time ⟨.addressed tag, r⟩ = s.handOver tag k := by
  cases r <;> cases hwork <;> rfl

theorem exec_handOver {c : Instr} {s : State} {tag : Half} {r : Request} {k : Work} {rest : List Entry}
    (hexec : executes c r = true) (hwork : storeWork r = some k) (hqueue : s.commands.queue = ⟨.addressed tag, r⟩ :: rest)
    (hroom : s.writer.jobs.length < 4) : exec c s = .next (s.handOver tag k) := by
  rw [exec_store_head hqueue hexec (requestClass_of_storeWork hwork).1 hroom, State.takeEntry_store hwork]

/-- Settles O39: the writer is busy, so the job only joins its queue. -/
theorem storeCommandsBecomeJobs : Obligations.StoreCommandsBecomeJobs := by
  intro c s tag r k rest hexec hwork hqueue hroom hbusy
  rw [exec_handOver hexec hwork hqueue hroom, State.handOver, if_neg]
  · rw [State.popQueue, hqueue]
    rfl
  · rw [State.clearing_eq_false_iff]
    rintro ⟨hcleared, hidle⟩
    exact hbusy.elim (fun hclearing => absurd hcleared (Nat.not_le.mpr hclearing)) (fun hrunning => hrunning hidle)

section
variable {c : Instr} {s : State} {tag : Half} {r : Request} {k : Work} {rest : List Entry}
  (hexec : executes c r = true) (hwork : storeWork r = some k) (hqueue : s.commands.queue = ⟨.addressed tag, r⟩ :: rest)
  (hcleared : 262144 ≤ s.store.progress) (hrunning : s.writer.running = none) (hjobs : s.writer.jobs = [])

include hexec hwork hqueue hcleared hrunning hjobs

/-- A store command handed to an idle writer is the only job, and starts. -/
theorem exec_handOver_idle : exec c s = .next
    { s with
      commands := { s.commands with queue := rest }
      writer := { s.writer with jobs := [⟨tag, k⟩] } : State }.startNext := by
  rw [exec_handOver hexec hwork hqueue (by rw [hjobs]; decide), State.handOver,
    if_pos ⟨s.clearing_eq_false_iff.mpr hcleared, hrunning⟩, hjobs, State.popQueue, hqueue]
  rfl

/-- A job that ends at its start on an idle writer: the reply stands for the command. -/
theorem exec_handOver_ended {window : Option Window} {cursor : Option Cursor} {e : Ending}
    (hstart : s.writer.startJob k = ({ s.writer with window := window, cursor := cursor }, .ended e)) :
    ∃ t, exec c s = .next t
      ∧ t = { s with
          writer := { s.writer with window := window, cursor := cursor }, commands := t.commands, up := t.up }
      ∧ s.answered t ⟨.addressed tag, r⟩ e.status e.cursor e.payload := by
  obtain ⟨u, hframe, hanswered, hnext⟩ := State.startEnds_of_ended (s := { s with
      commands := { s.commands with queue := rest }
      writer := { s.writer with jobs := [⟨tag, k⟩] } }) (j := ⟨tag, k⟩) (rest := []) (window := window)
    (cursor := cursor) (e := e) rfl (by rw [← hjobs, ← hrunning]; exact hstart)
  refine ⟨u, ?_, ?_, ?_⟩
  · rw [exec_handOver_idle hexec hwork hqueue hcleared hrunning hjobs, hnext,
      State.startNext_idle (by rw [hframe]) (by rw [hframe])]
  · rw [← hjobs, ← hrunning] at hframe
    exact hframe
  · obtain ⟨hup, hcommands⟩ := hanswered
    refine ⟨hup.trans ?_, hcommands.trans ?_⟩
    · rw [(requestClass_of_storeWork hwork).2]
    · rw [(requestClass_of_storeWork hwork).2, hqueue]
      rfl

/-- A job that runs from its start on an idle writer. -/
theorem exec_handOver_runs {cursor : Option Cursor} {p : Progress}
    (hstart : s.writer.startJob k = ({ s.writer with cursor := cursor }, .goesOn p)) :
    exec c s = .next { s with
      commands := { s.commands with queue := rest }
      writer := { s.writer with cursor := cursor, running := some ⟨tag, p⟩ } } := by
  rw [exec_handOver_idle hexec hwork hqueue hcleared hrunning hjobs,
    State.startNext_of_goesOn (s := { s with
      commands := { s.commands with queue := rest }
      writer := { s.writer with jobs := [⟨tag, k⟩] } }) (j := ⟨tag, k⟩) (rest := []) (cursor := cursor) (p := p) rfl
      (by rw [← hjobs, ← hrunning]; exact hstart), ← hjobs]

end

/-- Settles O40: each kind of job, by what its start gives. -/
theorem idleWriterTakesJobs : Obligations.IdleWriterTakesJobs := by
  refine ⟨fun s tag p rest hqueue hcleared hrunning hjobs => ?_, fun s tag rest hcleared hrunning hjobs =>
    ⟨fun runs hqueue hruns => ⟨fun i hbad => ?_, fun hgood => ⟨fun hwindow => ?_, fun hwindow hcursor => ?_,
      fun hwindow hcursor => ?_⟩⟩, fun value hqueue => ⟨fun hwindow => ?_, fun win hwindow => ?_⟩,
      fun count hqueue => ⟨fun hcount => ?_, fun hlow hhigh => ⟨fun hwindow => ?_, fun hwindow hcursor => ?_,
        fun hwindow hcursor => ?_⟩⟩⟩⟩
  · rw [← windowCheck_eq]
    cases hcheck : windowCheck p with
    | some n =>
      obtain ⟨t, hnext, hframe, hanswered⟩ := exec_handOver_ended (c := .window) rfl rfl hqueue hcleared hrunning hjobs
        (StoreWriter.startJob_window_refused hcheck s.writer)
      exact ⟨t, hnext, by rw [hframe], by rw [hframe], hanswered⟩
    | none =>
      obtain ⟨t, hnext, hframe, hanswered⟩ := exec_handOver_ended (c := .window) rfl rfl hqueue hcleared hrunning hjobs
        (StoreWriter.startJob_window_done hcheck s.writer)
      exact ⟨t, hnext, by rw [hframe], by rw [hframe], hanswered⟩
  · rw [← firstBadRun_eq] at hbad
    exact exec_handOver_ended rfl rfl hqueue hcleared hrunning hjobs (StoreWriter.startJob_write_refused hbad s.writer)
  · rw [← firstBadRun_eq_none_iff] at hgood
    exact exec_handOver_ended rfl rfl hqueue hcleared hrunning hjobs
      (StoreWriter.startJob_write_noWindow hgood hwindow)
  · rw [← firstBadRun_eq_none_iff] at hgood
    exact exec_handOver_ended rfl rfl hqueue hcleared hrunning hjobs
      (StoreWriter.startJob_write_exhausted hgood hwindow hcursor)
  · rw [← firstBadRun_eq_none_iff] at hgood
    exact exec_handOver_runs rfl rfl hqueue hcleared hrunning hjobs
      (StoreWriter.startJob_write_runs hgood hruns hwindow hcursor)
  · exact exec_handOver_ended rfl rfl hqueue hcleared hrunning hjobs
      (StoreWriter.startJob_fill_noWindow hwindow value)
  · exact exec_handOver_runs rfl rfl hqueue hcleared hrunning hjobs (StoreWriter.startJob_fill_runs hwindow value)
  · exact exec_handOver_ended rfl rfl hqueue hcleared hrunning hjobs (StoreWriter.startJob_read_refused hcount s.writer)
  · exact exec_handOver_ended rfl rfl hqueue hcleared hrunning hjobs
      (StoreWriter.startJob_read_noWindow (by rw [byte_eq_zero_iff]; omega) hwindow)
  · exact exec_handOver_ended rfl rfl hqueue hcleared hrunning hjobs
      (StoreWriter.startJob_read_exhausted (by rw [byte_eq_zero_iff]; omega) hwindow hcursor)
  · exact exec_handOver_runs rfl rfl hqueue hcleared hrunning hjobs
      (StoreWriter.startJob_read_runs (by rw [byte_eq_zero_iff]; omega) hwindow hcursor)

/-! ### The positions of a window in its order (R83, R84) -/

/-- The place of a position in the window's order. -/
def Window.placeOf (w : Window) (column row : Nat) : Nat :=
  match w.order with
  | .rowFirst => w.width * row + column
  | .columnFirst => w.height * column + row

theorem mul_add_lt_mul {a b i j : Nat} (hi : i < a) (hj : j < b) : a * j + i < a * b :=
  calc a * j + i < a * j + a := Nat.add_lt_add_left hi _
    _ = a * (j + 1) := (Nat.mul_succ a j).symm
    _ ≤ a * b := Nat.mul_le_mul_left a hj

theorem mul_add_div_of_lt {a i : Nat} (hi : i < a) (j : Nat) : (a * j + i) / a = j := by
  rw [Nat.mul_add_div (Nat.zero_lt_of_lt hi), Nat.div_eq_of_lt hi, Nat.add_zero]

theorem mul_add_mod_of_lt {a i : Nat} (hi : i < a) (j : Nat) : (a * j + i) % a = i := by
  rw [Nat.mul_add_mod, Nat.mod_eq_of_lt hi]

section
variable {w : Window} {column row : Nat} (hcolumn : column < w.width) (hrow : row < w.height)

include hcolumn hrow

theorem Window.placeOf_lt : w.placeOf column row < w.width * w.height := by
  unfold Window.placeOf
  cases w.order with
  | rowFirst => exact mul_add_lt_mul hcolumn hrow
  | columnFirst =>
    dsimp only
    rw [Nat.mul_comm w.width w.height]
    exact mul_add_lt_mul hrow hcolumn

theorem Window.cursorAt_placeOf : w.cursorAt (w.placeOf column row) = .pos column row := by
  have hplace := Window.placeOf_lt hcolumn hrow
  rw [Window.cursorAt, if_pos hplace]
  unfold Window.placeOf
  cases w.order with
  | rowFirst =>
    dsimp only
    rw [mul_add_mod_of_lt hcolumn, mul_add_div_of_lt hcolumn]
  | columnFirst =>
    dsimp only
    rw [mul_add_mod_of_lt hrow, mul_add_div_of_lt hrow]

theorem Window.entryAt_placeOf : w.entryAt (w.placeOf column row) = w.address column row := by
  unfold Window.entryAt Window.placeOf Window.address
  cases w.order with
  | rowFirst =>
    dsimp only
    rw [mul_add_mod_of_lt hcolumn, mul_add_div_of_lt hcolumn]
  | columnFirst =>
    dsimp only
    rw [mul_add_mod_of_lt hrow, mul_add_div_of_lt hrow]

/-- The step of Table 6-1 is the next place. -/
theorem Window.advance_eq_cursorAt : w.advance column row = w.cursorAt (w.placeOf column row + 1) := by
  have hend : w.cursorAt (w.width * w.height) = .exhausted := if_neg (lt_irrefl _)
  cases horder : w.order with
  | rowFirst =>
    have hplace : ∀ column' row', w.placeOf column' row' = w.width * row' + column' := fun column' row' => by
      rw [Window.placeOf, horder]
    simp only [Window.advance, horder]
    split
    · next hnext => rw [← Window.cursorAt_placeOf hnext hrow, hplace, hplace, Nat.add_assoc]
    next hlast =>
    have hwidth : column + 1 = w.width := by omega
    have hstep : w.placeOf column row + 1 = w.width * (row + 1) := by
      rw [hplace, Nat.mul_succ]
      omega
    split
    · next hnext =>
      rw [← Window.cursorAt_placeOf (Nat.zero_lt_of_lt hcolumn) hnext, hplace 0, hstep, Nat.add_zero]
    · next hbottom =>
      have hheight : row + 1 = w.height := by omega
      rw [hstep, hheight, hend]
  | columnFirst =>
    have hplace : ∀ column' row', w.placeOf column' row' = w.height * column' + row' := fun column' row' => by
      rw [Window.placeOf, horder]
    simp only [Window.advance, horder]
    split
    · next hnext => rw [← Window.cursorAt_placeOf hcolumn hnext, hplace, hplace, Nat.add_assoc]
    next hlast =>
    have hheight : row + 1 = w.height := by omega
    have hstep : w.placeOf column row + 1 = w.height * (column + 1) := by
      rw [hplace, Nat.mul_succ]
      omega
    split
    · next hnext =>
      rw [← Window.cursorAt_placeOf hnext (Nat.zero_lt_of_lt hrow), hplace _ 0, hstep, Nat.add_zero]
    · next hright =>
      have hwidth : column + 1 = w.width := by omega
      rw [hstep, hwidth, Nat.mul_comm w.height, hend]

end

/-- Every place below the number of positions is that of a position. -/
theorem Window.exists_placeOf {w : Window} {k : Nat} (hk : k < w.width * w.height) :
    ∃ column row, column < w.width ∧ row < w.height ∧ w.placeOf column row = k := by
  have hwidth : 0 < w.width := Nat.pos_of_ne_zero fun h => by rw [h, Nat.zero_mul] at hk; omega
  have hheight : 0 < w.height := Nat.pos_of_ne_zero fun h => by rw [h, Nat.mul_zero] at hk; omega
  unfold Window.placeOf
  cases w.order with
  | rowFirst =>
    exact ⟨k % w.width, k / w.width, Nat.mod_lt _ hwidth, Nat.div_lt_of_lt_mul hk, Nat.div_add_mod k w.width⟩
  | columnFirst =>
    rw [Nat.mul_comm] at hk
    exact ⟨k / w.height, k % w.height, Nat.div_lt_of_lt_mul hk, Nat.mod_lt _ hheight, Nat.div_add_mod k w.height⟩

/-- The cursor after the step of Table 6-1, EXHAUSTED staying so. -/
def Window.stepCursor (w : Window) : Cursor → Cursor
  | .pos column row => w.advance column row
  | .exhausted => .exhausted

theorem Window.cursorAt_of_le {w : Window} {k : Nat} (hk : w.width * w.height ≤ k) : w.cursorAt k = .exhausted :=
  if_neg (Nat.not_lt.mpr hk)

theorem Window.stepCursor_cursorAt (w : Window) (k : Nat) : w.stepCursor (w.cursorAt k) = w.cursorAt (k + 1) := by
  rcases Nat.lt_or_ge k (w.width * w.height) with hk | hk
  · obtain ⟨column, row, hcolumn, hrow, rfl⟩ := Window.exists_placeOf hk
    rw [Window.cursorAt_placeOf hcolumn hrow]
    exact Window.advance_eq_cursorAt hcolumn hrow
  · rw [Window.cursorAt_of_le hk, Window.cursorAt_of_le (Nat.le_succ_of_le hk)]
    rfl

theorem Window.cursorAt_zero {w : Window} (hwidth : 1 ≤ w.width) (hheight : 1 ≤ w.height) :
    w.cursorAt 0 = .pos 0 0 := by
  have hplace : w.placeOf 0 0 = 0 := by
    unfold Window.placeOf
    cases w.order <;> simp
  rw [← Window.cursorAt_placeOf (w := w) hwidth hheight, hplace]

theorem Window.stepCursor_iterate {w : Window} (hwidth : 1 ≤ w.width) (hheight : 1 ≤ w.height) (k : Nat) :
    w.stepCursor^[k] (.pos 0 0) = w.cursorAt k := by
  induction k with
  | zero => exact (Window.cursorAt_zero hwidth hheight).symm
  | succ k ih => rw [Function.iterate_succ_apply', ih, Window.stepCursor_cursorAt]

/-- A position stands at one place only. -/
theorem Window.eq_placeOf_of_cursorAt {w : Window} {k column row : Nat} (hk : k < w.width * w.height)
    (hcursor : w.cursorAt k = .pos column row) :
    column < w.width ∧ row < w.height ∧ k = w.placeOf column row := by
  obtain ⟨column', row', hcolumn, hrow, rfl⟩ := Window.exists_placeOf hk
  rw [Window.cursorAt_placeOf hcolumn hrow] at hcursor
  obtain ⟨rfl, rfl⟩ := Cursor.pos.inj hcursor
  exact ⟨hcolumn, hrow, rfl⟩

/-- Settles O41: the table's step is the next place of the order, and places and positions correspond. -/
theorem cursorVisitsEveryPositionOnce : Obligations.CursorVisitsEveryPositionOnce := by
  intro w hwidth hheight
  refine ⟨fun column row hcolumn hrow => ?_, fun k => ?_, fun column row hcolumn hrow => ?_⟩
  · unfold Window.advance
    cases w.order with
    | rowFirst => simp only [show column + 1 < w.width ↔ column < w.width - 1 by omega,
        show row + 1 < w.height ↔ row < w.height - 1 by omega]
    | columnFirst => simp only [show column + 1 < w.width ↔ column < w.width - 1 by omega,
        show row + 1 < w.height ↔ row < w.height - 1 by omega]
  · exact Window.stepCursor_iterate hwidth hheight k
  · exact ⟨w.placeOf column row, Window.placeOf_lt hcolumn hrow, Window.cursorAt_placeOf hcolumn hrow,
      fun j hj hcursor => (Window.eq_placeOf_of_cursorAt hj hcursor).2.2⟩

/-- Two places of a window whose stride holds its width are two entries. -/
theorem Window.entryAt_injective {w : Window} (hvalid : w.valid = true) {j k : Nat} (hj : j < w.width * w.height)
    (hk : k < w.width * w.height) (heq : w.entryAt j = w.entryAt k) : j = k := by
  have hstride : w.width ≤ w.stride := by
    obtain ⟨⟨-, -, -, -, hstride, -⟩, -⟩ := (footprintValid_iff ..).mp hvalid
    exact hstride
  obtain ⟨column, row, hcolumn, hrow, rfl⟩ := Window.exists_placeOf hj
  obtain ⟨column', row', hcolumn', hrow', rfl⟩ := Window.exists_placeOf hk
  rw [Window.entryAt_placeOf hcolumn hrow, Window.entryAt_placeOf hcolumn' hrow', Window.address, Window.address,
    Nat.mul_comm row, Nat.mul_comm row', Nat.add_assoc, Nat.add_assoc] at heq
  have hplace := Nat.add_left_cancel heq
  have hrows : row = row' := by
    rw [← mul_add_div_of_lt (Nat.lt_of_lt_of_le hcolumn hstride) row, hplace,
      mul_add_div_of_lt (Nat.lt_of_lt_of_le hcolumn' hstride)]
  have hcolumns : column = column' := by
    rw [← mul_add_mod_of_lt (Nat.lt_of_lt_of_le hcolumn hstride) row, hplace,
      mul_add_mod_of_lt (Nat.lt_of_lt_of_le hcolumn' hstride)]
  rw [hrows, hcolumns]

end Sys2Proof.Machine
end

/-! PROOFS. The pace step (R90): what one pixel of each kind of work does (R81, R92 to R95), as many of them as the
allowance gives, and how the pace step goes on with the waiting jobs. -/

section
namespace Sys2Proof.Machine

-- one theorem at a time, as in the tests: many threads' stacks at once exceed the check's memory limit
set_option Elab.async false

/-! ### The writer inside the store (R83, R94) -/

/-- The window, while present, is valid, and the cursor lies in it. -/
def StoreWriter.windowFits (w : StoreWriter) : Prop :=
  ∀ win, w.window = some win → win.valid = true ∧ ∀ c, w.cursor = some c → c.within win = true

theorem StoreWriter.inStore_iff (w : StoreWriter) : w.inStore = true ↔ w.windowFits
    ∧ ∀ tag value win written, w.running = some ⟨tag, .fill value win written⟩ →
      win.valid = true ∧ written < win.positions := by
  obtain ⟨window, cursor, jobs, running, allowance⟩ := w
  unfold StoreWriter.inStore StoreWriter.windowFits
  rw [Bool.and_eq_true]
  refine and_congr ?_ ?_
  · cases window <;> cases cursor <;> simp
  · rcases running with _ | ⟨tag, _ | _ | _⟩
    · simp
    · simp
    · simp only [Bool.and_eq_true, decide_eq_true_eq, Option.some.injEq, Running.mk.injEq, Progress.fill.injEq]
      exact ⟨fun h _ _ _ _ ⟨_, _, hwin, hwritten⟩ => hwin ▸ hwritten ▸ h, fun h => h tag _ _ _ ⟨rfl, rfl, rfl, rfl⟩⟩
    · simp

theorem Window.valid_positions_pos {w : Window} (h : w.valid = true) : 0 < w.positions := by
  obtain ⟨⟨hwidth, -, hheight, -, -, -, -⟩, -⟩ := (footprintValid_iff ..).mp h
  exact Nat.mul_pos hwidth hheight

theorem Window.origin_within {w : Window} (h : w.valid = true) : (Cursor.pos 0 0).within w = true := by
  obtain ⟨⟨hwidth, -, hheight, -, -, -, -⟩, -⟩ := (footprintValid_iff ..).mp h
  exact decide_eq_true ⟨hwidth, hheight⟩

/-- What the start of a job can do to the writer: it stays, or a valid window is set with the cursor at its start, or
the cursor goes to the start of the window for a FILL. -/
theorem StoreWriter.startJob_cases (w : StoreWriter) (k : Work) :
    (∃ e, w.startJob k = (w, .ended e))
    ∨ (∃ win e, win.valid = true
        ∧ w.startJob k = ({ w with window := some win, cursor := some (.pos 0 0) }, .ended e))
    ∨ (∃ win value, w.window = some win
        ∧ w.startJob k = ({ w with cursor := some (.pos 0 0) }, .goesOn (.fill value win 0)))
    ∨ (∃ win left, w.window = some win ∧ w.cursor ≠ some .exhausted ∧ left ≠ []
        ∧ w.startJob k = (w, .goesOn (.write left 0)))
    ∨ (∃ win left, w.window = some win ∧ w.cursor ≠ some .exhausted ∧ 1 ≤ left
        ∧ w.startJob k = (w, .goesOn (.read left []))) := by
  cases k with
  | window p =>
    cases hcheck : windowCheck p with
    | some n => exact .inl ⟨_, StoreWriter.startJob_window_refused hcheck w⟩
    | none =>
      refine .inr (.inl ⟨windowOf p, ⟨.done, none, bytes3 (p.width.toNat * p.height.toNat)⟩, windowOf_valid hcheck, ?_⟩)
      rw [windowOf_eq hcheck]
      exact StoreWriter.startJob_window_done hcheck w
  | write runs =>
    rw [StoreWriter.startJob]
    cases hbad : firstBadRun runs with
    | some i => exact .inl ⟨_, rfl⟩
    | none =>
      cases hwindow : w.window with
      | none => exact .inl ⟨_, rfl⟩
      | some win =>
        by_cases hstarts : w.cursor = some .exhausted ∨ pixelsOf (runList runs) = 0
        · exact .inl ⟨_, if_pos hstarts⟩
        · obtain ⟨hcursor, hpixels⟩ := not_or.mp hstarts
          exact .inr (.inr (.inr (.inl ⟨win, runList runs, rfl, hcursor, fun hnil => hpixels (by rw [hnil]; rfl),
            if_neg hstarts⟩)))
  | fill value =>
    cases hwindow : w.window with
    | none => exact .inl ⟨_, StoreWriter.startJob_fill_noWindow hwindow value⟩
    | some win =>
      refine .inr (.inr (.inl ⟨win, value, rfl, ?_⟩))
      rw [← hwindow]
      exact StoreWriter.startJob_fill_runs hwindow value
  | read count =>
    by_cases hcount : count = 0 ∨ 240 < count.toNat
    · exact .inl ⟨_, StoreWriter.startJob_read_refused hcount w⟩
    cases hwindow : w.window with
    | none => exact .inl ⟨_, StoreWriter.startJob_read_noWindow hcount hwindow⟩
    | some win =>
      have hpresent : w.window ≠ none := by
        rw [hwindow]
        exact Option.some_ne_none win
      by_cases hcursor : w.cursor = some .exhausted
      · exact .inl ⟨_, StoreWriter.startJob_read_exhausted hcount hpresent hcursor⟩
      · rw [byte_eq_zero_iff] at hcount
        refine .inr (.inr (.inr (.inr ⟨win, count.toNat, rfl, hcursor, by omega, ?_⟩)))
        exact StoreWriter.startJob_read_runs (by rwa [byte_eq_zero_iff]) hpresent hcursor

/-- What starting the waiting jobs does: each that ends at once hands the writer on to the next, and the last one to
start runs or leaves the writer idle. `P` is kept by every start that ends, and `Q` follows from it at the end. -/
theorem State.startJobs_induction {P : List Job → State → Prop} {Q : State → Prop}
    (hidle : ∀ s, P [] s → Q (s.withWriter { s.writer with jobs := [], running := none }))
    (hends : ∀ (s : State) (j : Job) (rest : List Job) (w : StoreWriter) (e : Ending), P (j :: rest) s →
      ({ s.writer with jobs := rest, running := none } : StoreWriter).startJob j.work = (w, .ended e) →
      P rest ((s.withWriter w).endJob j.tag (workCode j.work) e))
    (hruns : ∀ (s : State) (j : Job) (rest : List Job) (w : StoreWriter) (p : Progress), P (j :: rest) s →
      ({ s.writer with jobs := rest, running := none } : StoreWriter).startJob j.work = (w, .goesOn p) →
      Q (s.withWriter { w with running := some ⟨j.tag, p⟩ }))
    (jobs : List Job) (s : State) (h : P jobs s) : Q (State.startJobs jobs s) := by
  induction jobs generalizing s with
  | nil => exact hidle s h
  | cons j rest ih =>
    unfold State.startJobs
    split
    · next w e hstart => exact ih _ (hends s j rest w e h hstart)
    · next w p hstart => exact hruns s j rest w p h hstart

theorem StoreWriter.startJob_windowFits {w : StoreWriter} (h : w.windowFits) (k : Work) :
    (w.startJob k).1.windowFits := by
  rcases w.startJob_cases k with ⟨e, heq⟩ | ⟨win, e, hvalid, heq⟩ | ⟨win, value, hwindow, heq⟩
    | ⟨win, left, -, -, -, heq⟩ | ⟨win, left, -, -, -, heq⟩
  · rw [heq]
    exact h
  · rw [heq]
    rintro _ ⟨rfl⟩
    refine ⟨hvalid, ?_⟩
    rintro _ ⟨rfl⟩
    exact Window.origin_within hvalid
  · rw [heq]
    intro win' hwin'
    refine ⟨(h win' hwin').1, ?_⟩
    rintro _ ⟨rfl⟩
    exact Window.origin_within (h win' hwin').1
  · rw [heq]
    exact h
  · rw [heq]
    exact h

theorem StoreWriter.startJob_fill {w : StoreWriter} {k : Work} {w' : StoreWriter} {value : Byte} {win : Window}
    {written : Nat} (heq : w.startJob k = (w', .goesOn (.fill value win written))) :
    w.window = some win ∧ w'.window = some win ∧ written = 0 ∧ w'.cursor = some (.pos 0 0) := by
  rcases w.startJob_cases k with ⟨e, h⟩ | ⟨win', e, hvalid, h⟩ | ⟨win', value', hwindow, h⟩
    | ⟨win', left, -, -, -, h⟩ | ⟨win', left, -, -, -, h⟩ <;> rw [h] at heq <;> cases heq
  exact ⟨hwindow, hwindow, rfl, rfl⟩

/-- Starting the waiting jobs leaves the writer inside the store. -/
theorem State.startJobs_inStore {s : State} (h : s.writer.windowFits) (jobs : List Job) :
    (State.startJobs jobs s).writer.inStore = true := by
  refine State.startJobs_induction (P := fun _ s => s.writer.windowFits) (Q := fun s => s.writer.inStore = true)
    (fun s h => ?_) (fun s j rest w e h hstart => ?_) (fun s j rest w p h hstart => ?_) jobs s h
  · exact (StoreWriter.inStore_iff _).mpr ⟨h, fun _ _ _ _ hrunning => nomatch hrunning⟩
  · have hfits := StoreWriter.startJob_windowFits (w := { s.writer with jobs := rest, running := none }) h j.work
    rw [hstart] at hfits
    exact hfits
  · have hfits := StoreWriter.startJob_windowFits (w := { s.writer with jobs := rest, running := none }) h j.work
    rw [hstart] at hfits
    refine (StoreWriter.inStore_iff _).mpr ⟨hfits, fun tag value win written hrunning => ?_⟩
    obtain ⟨-, rfl⟩ := Running.mk.inj (Option.some.inj hrunning)
    obtain ⟨hwindow, -, rfl, -⟩ := StoreWriter.startJob_fill hstart
    exact ⟨(h win hwindow).1, Window.valid_positions_pos (h win hwindow).1⟩

/-! ### The pace step as pixels of work (R90) -/

theorem State.workPixels_of_rest {s : State} (hrest : s.working = false) (n : Nat) : State.workPixels n s = s := by
  cases n with
  | zero => rfl
  | succ n => rw [State.workPixels, hrest]; rfl

theorem State.workPixels_succ {s : State} (hworking : s.working = true) (n : Nat) :
    State.workPixels (n + 1) s = State.workPixels n s.workPixel := by
  rw [State.workPixels, if_pos hworking]

theorem State.workPixels_add (m n : Nat) (s : State) :
    State.workPixels (m + n) s = State.workPixels n (State.workPixels m s) := by
  induction m generalizing s with
  | zero => rw [Nat.zero_add, State.workPixels]
  | succ m ih =>
    cases hworking : s.working with
    | false => rw [State.workPixels_of_rest hworking, State.workPixels_of_rest hworking,
        State.workPixels_of_rest hworking]
    | true => rw [Nat.add_right_comm, State.workPixels_succ hworking, State.workPixels_succ hworking, ih]

/-- The next pixel after `n` of them. -/
theorem State.workPixels_succ' {s : State} {n : Nat} (hworking : (State.workPixels n s).working = true) :
    State.workPixels (n + 1) s = (State.workPixels n s).workPixel := by
  rw [State.workPixels_add, State.workPixels_succ hworking, State.workPixels]

/-- A pace step is its allowance in pixels, be it due or not. -/
theorem exec_paceStep {s : State} (hin : s.writer.inStore = true) :
    exec .paceStep s = .next (State.workPixels s.writer.allowance s) := by
  rw [exec, execPaceStep]
  by_cases hdue : s.working = true ∧ 0 < s.writer.allowance
  · rw [if_pos hdue, if_pos hin]
  · rw [if_neg hdue]
    rcases Nat.eq_zero_or_pos s.writer.allowance with hzero | hpos
    · rw [hzero, State.workPixels]
    · rw [State.workPixels_of_rest (Bool.eq_false_iff.mpr fun hworking => hdue ⟨hworking, hpos⟩)]

/-- After `m` pixels the work has ended in `t`, and the waiting jobs start: the pace step goes on from there. -/
theorem State.paceGoesOnFrom_of {s t : State} {m : Nat} (hin : s.writer.inStore = true) (hm : m ≤ s.writer.allowance)
    (hwork : State.workPixels m s = t.startNext) (hallowance : t.writer.allowance = s.writer.allowance - m)
    (hfits : t.writer.windowFits) (hidle : t.writer.running = none) (hcleared : 262144 ≤ t.store.progress) :
    s.paceGoesOnFrom t := by
  have hpace : exec .paceStep s = .next (State.workPixels (s.writer.allowance - m) t.startNext) := by
    rw [exec_paceStep hin, ← hwork, ← State.workPixels_add, Nat.add_sub_cancel' hm]
  refine ⟨?_, fun hjobs => ?_⟩
  · have hstarted : t.startNext.writer.inStore = true := State.startJobs_inStore hfits _
    have hkept : t.startNext.writer.allowance = t.writer.allowance := State.startJobs_allowance ..
    rw [exec_paceStep hstarted, hpace, hkept, hallowance]
  · have hrest : t.working = false := by
      rw [← Bool.not_eq_true, State.working_iff, hidle]
      exact not_or.mpr ⟨Nat.not_lt.mpr hcleared, not_not.mpr rfl⟩
    rw [hpace, State.startNext_idle hjobs hidle, State.workPixels_of_rest hrest]

/-! ### The start-up clear (R81, R82) -/

/-- The part after `n` pixels of the clear, not the last among them. -/
def State.cleared (s : State) (n : Nat) : State := { s with
  store := IndexStore.clearOne^[n] s.store
  writer := { s.writer with allowance := s.writer.allowance - n } }

theorem IndexStore.clearOne_iterate_progress (st : IndexStore) (n : Nat) :
    (IndexStore.clearOne^[n] st).progress = st.progress + n := by
  induction n with
  | zero => rfl
  | succ n ih =>
    rw [Function.iterate_succ_apply']
    exact congrArg (· + 1) ih

theorem IndexStore.read_clearOne_iterate (st : IndexStore) (n a : Nat) :
    (IndexStore.clearOne^[n] st).read a = if st.progress ≤ a ∧ a < st.progress + n then 0 else st.read a := by
  induction n with
  | zero => rw [if_neg (by omega)]; rfl
  | succ n ih =>
    rw [Function.iterate_succ_apply', IndexStore.read_clearOne, IndexStore.clearOne_iterate_progress, ih]
    by_cases ha : a = st.progress + n
    · rw [if_pos ha, if_pos (by omega)]
    · rw [if_neg ha]
      exact if_congr (by omega) rfl rfl

theorem State.cleared_succ (s : State) (n : Nat) : s.cleared (n + 1) = { s.cleared n with
    store := (s.cleared n).store.clearOne
    writer := { (s.cleared n).writer with allowance := (s.cleared n).writer.allowance - 1 } } := by
  rw [State.cleared, Function.iterate_succ_apply', ← Nat.sub_sub]
  rfl

theorem State.workPixels_clear {s : State} {n : Nat} (hn : s.store.progress + n < 262144) :
    State.workPixels n s = s.cleared n := by
  induction n with
  | zero => rfl
  | succ n ih =>
    have hprogress : (s.cleared n).store.progress = s.store.progress + n := IndexStore.clearOne_iterate_progress ..
    have hclearing : (s.cleared n).clearing = true := by
      rw [State.clearing_iff]
      omega
    have hmore : (s.cleared (n + 1)).clearing = true := by
      rw [State.clearing_iff]
      exact (IndexStore.clearOne_iterate_progress ..).trans_lt hn
    have ih := ih (by omega)
    rw [State.workPixels_succ' (by rw [ih, State.working, hclearing]; rfl), ih, State.workPixel, if_pos hclearing]
    rw [State.cleared_succ] at hmore ⊢
    exact if_pos hmore

/-- The last pixel of the clear offers CLEAR-DONE, and the waiting jobs start. -/
theorem State.workPixels_clear_last {s : State} {n : Nat} (hn : s.store.progress + n = 262144) (hpos : 0 < n) :
    State.workPixels n s = ((s.cleared n).offer ⟨.clearDone, []⟩).startNext := by
  obtain ⟨m, rfl⟩ := Nat.exists_eq_succ_of_ne_zero hpos.ne'
  have hprogress : (s.cleared m).store.progress = s.store.progress + m := IndexStore.clearOne_iterate_progress ..
  have hclearing : (s.cleared m).clearing = true := by
    rw [State.clearing_iff]
    omega
  have hdone : ¬ (s.cleared (m + 1)).clearing = true := by
    rw [State.clearing_iff]
    exact Nat.not_lt.mpr ((IndexStore.clearOne_iterate_progress ..).trans hn).ge
  have hbefore := State.workPixels_clear (s := s) (n := m) (by omega)
  rw [State.workPixels_succ' (by rw [hbefore, State.working, hclearing]; rfl), hbefore, State.workPixel,
    if_pos hclearing]
  rw [State.cleared_succ] at hdone ⊢
  exact if_neg hdone

/-- Settles O42: the clear is not done with this allowance, or it is, and the waiting jobs have the rest of it. -/
theorem paceStepClearsInOrder : Obligations.PaceStepClearsInOrder := by
  intro s hclearing hidle hallowance hin
  have hpace := exec_paceStep hin
  refine ⟨fun hmore => ?_, fun hdone => ?_⟩
  · rw [State.workPixels_clear hmore] at hpace
    refine ⟨s.cleared s.writer.allowance, hpace, ?_, IndexStore.clearOne_iterate_progress ..,
      fun a => IndexStore.read_clearOne_iterate s.store _ a⟩
    rw [State.cleared, Nat.sub_self]
  · have hlast : s.store.progress + (262144 - s.store.progress) = 262144 := by omega
    have hprogress : (s.cleared (262144 - s.store.progress)).store.progress = 262144 :=
      (IndexStore.clearOne_iterate_progress ..).trans hlast
    refine ⟨(s.cleared (262144 - s.store.progress)).offer ⟨.clearDone, []⟩, ?_, ?_, fun a => ?_,
      State.paceGoesOnFrom_of hin (by omega) (State.workPixels_clear_last hlast (by omega)) ?_ ?_ ?_ ?_⟩
    · rw [State.offer_eq_afterNotices]
      rfl
    · rw [State.offer_eq_afterNotices]
      exact hprogress
    · rw [State.offer_eq_afterNotices]
      refine (IndexStore.read_clearOne_iterate s.store _ a).trans ?_
      rw [hlast]
    · rw [State.offer_eq_afterNotices]
      rfl
    · rw [State.offer_eq_afterNotices]
      exact (s.writer.inStore_iff.mp hin).1
    · rw [State.offer_eq_afterNotices]
      exact hidle
    · rw [State.offer_eq_afterNotices]
      exact hprogress.ge

/-! ### Writing a list of entries (R80) -/

/-- The store after writes, in order. -/
def IndexStore.writes (st : IndexStore) (l : List (Nat × Byte)) : IndexStore :=
  l.foldl (fun st p => st.write p.1 p.2) st

theorem IndexStore.writes_append (st : IndexStore) (l l' : List (Nat × Byte)) :
    st.writes (l ++ l') = (st.writes l).writes l' := List.foldl_append

theorem IndexStore.writes_progress (st : IndexStore) (l : List (Nat × Byte)) :
    (st.writes l).progress = st.progress := by
  induction l generalizing st with
  | nil => rfl
  | cons p l ih => exact (ih _).trans (st.write_progress p.1 p.2)

/-- An entry that is not written keeps its value. -/
theorem IndexStore.read_writes_of_not_mem {st : IndexStore} (h : st.wf) {l : List (Nat × Byte)} {a : Nat}
    (ha : ∀ p ∈ l, p.1 ≠ a) : (st.writes l).read a = st.read a := by
  induction l generalizing st with
  | nil => rfl
  | cons p l ih =>
    refine (ih (st.write_wf p.1 p.2 h) fun q hq => ha q (List.mem_cons_of_mem _ hq)).trans ?_
    rw [IndexStore.read_write st p.1 a p.2 h, if_neg (ha p List.mem_cons_self).symm]

/-- An entry that is written, always with the same value, holds it. -/
theorem IndexStore.read_writes_of_mem {st : IndexStore} (h : st.wf) {l : List (Nat × Byte)} {a : Nat} {v : Byte}
    (hv : ∀ p ∈ l, p.1 = a → p.2 = v) (ha : ∃ p ∈ l, p.1 = a) : (st.writes l).read a = v := by
  induction l generalizing st with
  | nil =>
    obtain ⟨p, hp, -⟩ := ha
    cases hp
  | cons p l ih =>
    have hrest : ∀ q ∈ l, q.1 = a → q.2 = v := fun q hq => hv q (List.mem_cons_of_mem _ hq)
    by_cases hlater : ∃ q ∈ l, q.1 = a
    · exact ih (st.write_wf p.1 p.2 h) hrest hlater
    · have hnone : ∀ q ∈ l, q.1 ≠ a := fun q hq heq => hlater ⟨q, hq, heq⟩
      obtain ⟨q, hq, hqa⟩ := ha
      obtain rfl : q = p := (List.mem_cons.mp hq).resolve_right fun hq => hnone q hq hqa
      refine (IndexStore.read_writes_of_not_mem (st.write_wf q.1 q.2 h) hnone).trans ?_
      rw [IndexStore.read_write st q.1 a q.2 h, if_pos hqa.symm, hv q List.mem_cons_self hqa]

end Sys2Proof.Machine
end

/-! PROOFS. The pace step of each kind of job (R92 to R95), and what every pace step does (R80, R90). -/

section
namespace Sys2Proof.Machine

-- one theorem at a time, as in the tests: many threads' stacks at once exceed the check's memory limit
set_option Elab.async false

/-! ### One pixel of a running job -/

theorem StoreWriter.pixel_allowance (w : StoreWriter) (a : Nat) (st : IndexStore) (p : Progress) :
    ({ w with allowance := a } : StoreWriter).pixel st p = w.pixel st p := by
  cases p <;> rfl

section
variable {s : State} {r : Running} {st : IndexStore} {cursor : Option Cursor}
  (hcleared : 262144 ≤ s.store.progress) (hrunning : s.writer.running = some r)

include hcleared hrunning

/-- A pixel after which the job has pixels left. -/
theorem State.workPixel_goesOn {p : Progress} (hpixel : s.writer.pixel s.store r.progress = (st, cursor, .goesOn p)) :
    s.workPixel = { s with
      store := st
      writer := { s.writer with
        cursor := cursor, running := some ⟨r.tag, p⟩, allowance := s.writer.allowance - 1 } } := by
  have hnot : ¬ s.clearing = true := by
    rw [s.clearing_eq_false_iff.mpr hcleared]
    exact Bool.false_ne_true
  rw [State.workPixel, if_neg hnot, hrunning]
  dsimp only
  rw [StoreWriter.pixel_allowance, hpixel]
  rfl

/-- The last pixel of a job: its reply, and the start of the waiting jobs. -/
theorem State.workPixel_ended {e : Ending} (hpixel : s.writer.pixel s.store r.progress = (st, cursor, .ended e)) :
    s.workPixel = ({ s with
      store := st
      writer := { s.writer with
        cursor := cursor, running := none, allowance := s.writer.allowance - 1 } : State }.endJob r.tag
          (progressCode r.progress) e).startNext := by
  have hnot : ¬ s.clearing = true := by
    rw [s.clearing_eq_false_iff.mpr hcleared]
    exact Bool.false_ne_true
  rw [State.workPixel, if_neg hnot, hrunning]
  dsimp only
  rw [StoreWriter.pixel_allowance, hpixel]
  rfl

end

theorem State.working_of_running {s : State} {r : Running} (hrunning : s.writer.running = some r) :
    s.working = true := by
  rw [State.working_iff, hrunning]
  exact .inr (Option.some_ne_none r)

/-! ### FILL (R94) -/

theorem Window.nthAddress_eq (w : Window) (k : Nat) : w.nthAddress k = w.entryAt k := by
  unfold Window.nthAddress Window.entryAt Window.address
  cases w.order <;> rfl

theorem StoreWriter.pixel_fill_goesOn {win : Window} {written : Nat} (hmore : written + 1 < win.positions)
    (w : StoreWriter) (st : IndexStore) (value : Byte) : w.pixel st (.fill value win written)
      = (st.write (win.entryAt written) value, w.cursor, .goesOn (.fill value win (written + 1))) := by
  rw [StoreWriter.pixel, Window.nthAddress_eq]
  exact if_neg (Nat.not_le.mpr hmore)

theorem StoreWriter.pixel_fill_ended {win : Window} {written : Nat} (hlast : win.positions ≤ written + 1)
    (w : StoreWriter) (st : IndexStore) (value : Byte) : w.pixel st (.fill value win written)
      = (st.write (win.entryAt written) value, w.cursor, .ended ⟨.done, none, bytes3 (written + 1)⟩) := by
  rw [StoreWriter.pixel, Window.nthAddress_eq]
  exact if_pos hlast

/-- The writes of `n` pixels of a FILL. -/
def fillWrites (value : Byte) (win : Window) (written n : Nat) : List (Nat × Byte) :=
  (List.range n).map (fun j => (win.entryAt (written + j), value))

theorem IndexStore.writes_fill_succ (st : IndexStore) (value : Byte) (win : Window) (written n : Nat) :
    st.writes (fillWrites value win written (n + 1))
      = (st.writes (fillWrites value win written n)).write (win.entryAt (written + n)) value := by
  rw [fillWrites, List.range_succ, List.map_append, IndexStore.writes_append]
  rfl

theorem IndexStore.read_writes_fill {st : IndexStore} (h : st.wf) (value : Byte) (win : Window) (written n a : Nat) :
    (st.writes (fillWrites value win written n)).read a
      = if ∃ k, k < n ∧ win.entryAt (written + k) = a then value else st.read a := by
  split
  · next hwritten =>
    obtain ⟨k, hk, rfl⟩ := hwritten
    refine IndexStore.read_writes_of_mem h (fun p hp _ => ?_) ⟨_, List.mem_map.mpr ⟨k, List.mem_range.mpr hk, rfl⟩, rfl⟩
    obtain ⟨j, -, rfl⟩ := List.mem_map.mp hp
    rfl
  · next hkept =>
    refine IndexStore.read_writes_of_not_mem h fun p hp heq => ?_
    obtain ⟨j, hj, rfl⟩ := List.mem_map.mp hp
    exact hkept ⟨j, List.mem_range.mp hj, heq⟩

/-- The part after `n` pixels of a FILL, not the last among them. -/
def State.filled (s : State) (tag : Half) (value : Byte) (win : Window) (written n : Nat) : State := { s with
  store := s.store.writes (fillWrites value win written n)
  writer := { s.writer with
    running := some ⟨tag, .fill value win (written + n)⟩, allowance := s.writer.allowance - n } }

/-- The part as a FILL ends, `n` pixels on. -/
def State.fillDone (s : State) (tag : Half) (value : Byte) (win : Window) (written n : Nat) : State :=
  { s with
    store := s.store.writes (fillWrites value win written n)
    writer := { s.writer with
      running := none, allowance := s.writer.allowance - n } : State }.endJob tag 0x12
        ⟨.done, none, bytes3 (written + n)⟩

section
variable {s : State} {tag : Half} {value : Byte} {win : Window} {written : Nat}
  (hcleared : 262144 ≤ s.store.progress) (hrunning : s.writer.running = some ⟨tag, .fill value win written⟩)

include hcleared hrunning

theorem State.workPixels_fill {n : Nat} (hn : written + n < win.positions) :
    State.workPixels n s = s.filled tag value win written n := by
  induction n with
  | zero =>
    have hsame : s.filled tag value win written 0 = { s with writer := { s.writer with
      running := some ⟨tag, .fill value win written⟩ } } := rfl
    rw [hsame, ← hrunning]
    rfl
  | succ n ih =>
    have ih := ih (by omega)
    rw [State.workPixels_succ' (by rw [ih]; exact State.working_of_running rfl), ih,
      State.workPixel_goesOn (s := s.filled tag value win written n)
        (r := ⟨tag, .fill value win (written + n)⟩) (hcleared.trans_eq (IndexStore.writes_progress ..).symm) rfl
        (StoreWriter.pixel_fill_goesOn (by omega) ..)]
    rw [State.filled, State.filled, IndexStore.writes_fill_succ, ← Nat.sub_sub]
    rfl

theorem State.workPixels_fill_last {n : Nat} (hn : written + n = win.positions) (hpos : 0 < n) :
    State.workPixels n s = (s.fillDone tag value win written n).startNext := by
  obtain ⟨m, rfl⟩ := Nat.exists_eq_succ_of_ne_zero hpos.ne'
  have hbefore := State.workPixels_fill hcleared hrunning (n := m) (by omega)
  rw [State.workPixels_succ' (by rw [hbefore]; exact State.working_of_running rfl), hbefore,
    State.workPixel_ended (s := s.filled tag value win written m)
      (r := ⟨tag, .fill value win (written + m)⟩) (hcleared.trans_eq (IndexStore.writes_progress ..).symm) rfl
      (StoreWriter.pixel_fill_ended (by omega) ..)]
  rw [State.filled, State.fillDone, IndexStore.writes_fill_succ, Nat.succ_eq_add_one, ← Nat.sub_sub]
  rfl

end

/-- Settles O43: the FILL is not done with this allowance, or it is, and the waiting jobs have the rest of it. -/
theorem paceStepFillsTheFootprint : Obligations.PaceStepFillsTheFootprint := by
  intro s tag value win written hcleared hrunning hin hallowance hwf m
  obtain ⟨hfits, hfill⟩ := s.writer.inStore_iff.mp hin
  have hleft : written < win.width * win.height := (hfill _ _ _ _ hrunning).2
  have hpace := exec_paceStep hin
  by_cases hmore : written + m < win.width * win.height
  · have hm : m = s.writer.allowance := by omega
    rw [← hm, State.workPixels_fill hcleared hrunning hmore] at hpace
    refine ⟨s.filled tag value win written m, rfl, IndexStore.read_writes_fill hwf value win written m, ?_⟩
    rw [if_pos hmore]
    refine ⟨?_, rfl, rfl, hpace⟩
    rw [State.filled, ← hm, Nat.sub_self]
  · have hlast : written + m = win.width * win.height := by omega
    refine ⟨s.fillDone tag value win written m, ?_, IndexStore.read_writes_fill hwf value win written m, ?_⟩
    · rw [State.fillDone, State.endJob_eq]
      rfl
    rw [if_neg hmore]
    refine ⟨rfl, ?_, State.paceGoesOnFrom_of hin (by omega)
      (State.workPixels_fill_last hcleared hrunning hlast (by omega)) rfl hfits rfl
      (hcleared.trans_eq (IndexStore.writes_progress ..).symm)⟩
    rw [← hlast]
    exact State.endJob_jobAnswered rfl rfl rfl ..

/-! ### The pixels of a WRITE (R92) -/

/-- The run list after one pixel. -/
def dropPixel : List (Byte × Nat) → List (Byte × Nat)
  | [] => []
  | (value, count) :: rest => takePixel value count rest

/-- Every run has pixels. -/
def counted (left : List (Byte × Nat)) : Prop := ∀ r ∈ left, 1 ≤ r.2

theorem counted_dropPixel {left : List (Byte × Nat)} (h : counted left) : counted (dropPixel left) := by
  cases left with
  | nil => exact h
  | cons run rest =>
    have hrest : counted rest := fun r hr => h r (List.mem_cons_of_mem _ hr)
    rw [dropPixel, takePixel]
    by_cases hcount : run.2 ≤ 1
    · rw [if_pos hcount]
      exact hrest
    · rw [if_neg hcount]
      intro r hr
      rcases List.mem_cons.mp hr with rfl | hr
      · exact Nat.le_sub_one_of_lt (Nat.not_le.mp hcount)
      · exact hrest r hr

theorem runValues_dropPixel {left : List (Byte × Nat)} (h : counted left) :
    runValues (dropPixel left) = (runValues left).tail := by
  match left, h with
  | [], _ => rfl
  | (value, count) :: rest, h =>
    obtain ⟨n, rfl⟩ : ∃ n, count = n + 1 := ⟨count - 1, by have := h _ List.mem_cons_self; omega⟩
    have hvalues : runValues ((value, n + 1) :: rest) = value :: (List.replicate n value ++ runValues rest) := rfl
    rw [hvalues, List.tail_cons, dropPixel, takePixel]
    cases n with
    | zero => rfl
    | succ n => rfl

theorem runValues_eq_nil_iff {left : List (Byte × Nat)} (h : counted left) : runValues left = [] ↔ left = [] := by
  match left, h with
  | [], _ => exact ⟨fun _ => rfl, fun _ => rfl⟩
  | (value, count) :: rest, h =>
    have hcount := h _ List.mem_cons_self
    simp only [runValues, List.flatMap_cons, List.append_eq_nil_iff, List.replicate_eq_nil_iff, reduceCtorEq, iff_false,
      not_and]
    intro hzero
    omega

theorem pixelsOf_eq_length (left : List (Byte × Nat)) : pixelsOf left = (runValues left).length := by
  rw [pixelsOf, runValues, List.length_flatMap]
  simp only [List.length_replicate]

theorem counted_dropPixel_iterate {left : List (Byte × Nat)} (h : counted left) (n : Nat) :
    counted (dropPixel^[n] left) := by
  induction n with
  | zero => exact h
  | succ n ih =>
    rw [Function.iterate_succ_apply']
    exact counted_dropPixel ih

theorem runValues_dropPixel_iterate {left : List (Byte × Nat)} (h : counted left) (n : Nat) :
    runValues (dropPixel^[n] left) = (runValues left).drop n := by
  induction n with
  | zero => rfl
  | succ n ih =>
    rw [Function.iterate_succ_apply', runValues_dropPixel (counted_dropPixel_iterate h n), ih, List.tail_drop]

theorem Window.cursorAt_eq_exhausted_iff (w : Window) (k : Nat) :
    w.cursorAt k = .exhausted ↔ w.width * w.height ≤ k := by
  refine ⟨fun hcursor => ?_, Window.cursorAt_of_le⟩
  by_contra hk
  obtain ⟨column, row, hcolumn, hrow, rfl⟩ := Window.exists_placeOf (Nat.not_le.mp hk)
  rw [Window.cursorAt_placeOf hcolumn hrow] at hcursor
  cases hcursor

theorem Window.cursorAt_within (w : Window) (k : Nat) : (w.cursorAt k).within w = true := by
  rcases Nat.lt_or_ge k (w.width * w.height) with hk | hk
  · obtain ⟨column, row, hcolumn, hrow, rfl⟩ := Window.exists_placeOf hk
    rw [Window.cursorAt_placeOf hcolumn hrow]
    exact decide_eq_true ⟨hcolumn, hrow⟩
  · rw [Window.cursorAt_of_le hk]
    rfl

theorem StoreWriter.pixel_write_cons {w : StoreWriter} {win : Window} {column row : Nat}
    (hwindow : w.window = some win) (hcursor : w.cursor = some (.pos column row)) (st : IndexStore) (value : Byte)
    (count : Nat) (rest : List (Byte × Nat)) (written : Nat) :
    w.pixel st (.write ((value, count) :: rest) written)
      = (st.write (win.address column row) value, some (win.advance column row),
        if dropPixel ((value, count) :: rest) = [] ∨ win.advance column row = .exhausted then
          .ended ⟨.done, some (win.advance column row),
            writePayload (written + 1) (pixelsOf (dropPixel ((value, count) :: rest)))⟩
        else .goesOn (.write (dropPixel ((value, count) :: rest)) (written + 1))) := by
  simp only [StoreWriter.pixel, hwindow, hcursor]
  split
  · next hend => exact Prod.ext rfl (Prod.ext rfl (if_pos hend).symm)
  · next hmore => exact Prod.ext rfl (Prod.ext rfl (if_neg hmore).symm)

/-- A pixel of a WRITE at the `k`-th position of the window. -/
theorem StoreWriter.pixel_write {w : StoreWriter} {win : Window} {k : Nat} {left : List (Byte × Nat)} {v : Byte}
    (hwindow : w.window = some win) (hcursor : w.cursor = some (win.cursorAt k)) (hk : k < win.width * win.height)
    (hcounted : counted left) (hv : (runValues left).head? = some v) (st : IndexStore) (written : Nat) :
    w.pixel st (.write left written) = (st.write (win.entryAt k) v, some (win.cursorAt (k + 1)),
      if (runValues left).length = 1 ∨ k + 1 = win.width * win.height then
        .ended ⟨.done, some (win.cursorAt (k + 1)),
          writePayload (written + 1) ((runValues left).length - 1)⟩
      else .goesOn (.write (dropPixel left) (written + 1))) := by
  obtain ⟨column, row, hcolumn, hrow, rfl⟩ := Window.exists_placeOf hk
  rw [Window.cursorAt_placeOf hcolumn hrow] at hcursor
  have hlength : (runValues (dropPixel left)).length = (runValues left).length - 1 := by
    rw [runValues_dropPixel hcounted, List.length_tail]
  have hpositive : 0 < (runValues left).length := List.length_pos_of_mem (List.mem_of_head? hv)
  have hends : (dropPixel left = [] ∨ win.cursorAt (win.placeOf column row + 1) = .exhausted)
      ↔ ((runValues left).length = 1 ∨ win.placeOf column row + 1 = win.width * win.height) := by
    rw [← runValues_eq_nil_iff (counted_dropPixel hcounted), ← List.length_eq_zero_iff, hlength,
      Window.cursorAt_eq_exhausted_iff]
    omega
  rcases left with _ | ⟨⟨value, count⟩, rest⟩
  · cases hv
  · have hvalue : value = v := by
      obtain ⟨n, rfl⟩ := Nat.exists_eq_succ_of_ne_zero (Nat.ne_zero_of_lt (hcounted (value, count) List.mem_cons_self))
      exact Option.some.inj hv
    rw [StoreWriter.pixel_write_cons hwindow hcursor, Window.advance_eq_cursorAt hcolumn hrow,
      Window.entryAt_placeOf hcolumn hrow, ← hlength, pixelsOf_eq_length, hvalue]
    simp only [← hvalue, hends]

/-! ### WRITE (R92, R93) -/

/-- The writes of `n` pixels of a WRITE from the `k`-th position on. -/
def writeWrites (values : List Byte) (win : Window) (k n : Nat) : List (Nat × Byte) :=
  (List.range n).map (fun j => (win.entryAt (k + j), values.getD j 0))

theorem IndexStore.writes_write_succ (st : IndexStore) (values : List Byte) (win : Window) (k n : Nat) :
    st.writes (writeWrites values win k (n + 1))
      = (st.writes (writeWrites values win k n)).write (win.entryAt (k + n)) (values.getD n 0) := by
  rw [writeWrites, List.range_succ, List.map_append, IndexStore.writes_append]
  rfl

theorem IndexStore.read_writes_write {st : IndexStore} (h : st.wf) {values : List Byte} {win : Window} {k n j : Nat}
    {v : Byte} (hvalid : win.valid = true) (hn : k + n ≤ win.width * win.height) (hj : j < n)
    (hv : values[j]? = some v) : (st.writes (writeWrites values win k n)).read (win.entryAt (k + j)) = v := by
  refine IndexStore.read_writes_of_mem h (fun p hp heq => ?_) ⟨_, List.mem_map.mpr ⟨j, List.mem_range.mpr hj, rfl⟩, rfl⟩
  obtain ⟨i, hi, rfl⟩ := List.mem_map.mp hp
  have hi := List.mem_range.mp hi
  have hplace := Window.entryAt_injective hvalid (by omega) (by omega) heq
  obtain rfl : i = j := by omega
  change values.getD i 0 = v
  rw [List.getD_eq_getElem?_getD, hv, Option.getD_some]

theorem IndexStore.read_writes_write_other {st : IndexStore} (h : st.wf) {values : List Byte} {win : Window}
    {k n a : Nat} (ha : ∀ j, j < n → win.entryAt (k + j) ≠ a) :
    (st.writes (writeWrites values win k n)).read a = st.read a := by
  refine IndexStore.read_writes_of_not_mem h fun p hp => ?_
  obtain ⟨j, hj, rfl⟩ := List.mem_map.mp hp
  exact ha j (List.mem_range.mp hj)

/-- The part after `n` pixels of a WRITE, not the last among them. -/
def State.written (s : State) (tag : Half) (left : List (Byte × Nat)) (written : Nat) (win : Window) (k n : Nat) :
    State := { s with
  store := s.store.writes (writeWrites (runValues left) win k n)
  writer := { s.writer with
    cursor := some (win.cursorAt (k + n))
    running := some ⟨tag, .write (dropPixel^[n] left) (written + n)⟩
    allowance := s.writer.allowance - n } }

/-- The part as a WRITE ends, `n` pixels on. -/
def State.writeDone (s : State) (tag : Half) (left : List (Byte × Nat)) (written : Nat) (win : Window) (k n : Nat) :
    State :=
  { s with
    store := s.store.writes (writeWrites (runValues left) win k n)
    writer := { s.writer with
      cursor := some (win.cursorAt (k + n)), running := none, allowance := s.writer.allowance - n } : State }.endJob
    tag 0x11 ⟨.done, some (win.cursorAt (k + n)), writePayload (written + n) ((runValues left).length - n)⟩

section
variable {s : State} {tag : Half} {left : List (Byte × Nat)} {written k n : Nat} {win : Window}
  (hcleared : 262144 ≤ s.store.progress) (hrunning : s.writer.running = some ⟨tag, .write left written⟩)
  (hcounted : counted left) (hwindow : s.writer.window = some win) (hcursor : s.writer.cursor = some (win.cursorAt k))

include hcounted hwindow in
/-- The pixel after `n` of them. -/
theorem State.pixel_written (hn : n < (runValues left).length) (hk : k + n < win.width * win.height) :
    (s.written tag left written win k n).writer.pixel (s.written tag left written win k n).store
        (.write (dropPixel^[n] left) (written + n))
      = (s.store.writes (writeWrites (runValues left) win k (n + 1)), some (win.cursorAt (k + (n + 1))),
        if n + 1 = (runValues left).length ∨ k + (n + 1) = win.width * win.height then
          .ended ⟨.done, some (win.cursorAt (k + (n + 1))),
            writePayload (written + (n + 1)) ((runValues left).length - (n + 1))⟩
        else .goesOn (.write (dropPixel^[n + 1] left) (written + (n + 1)))) := by
  have hvalues := runValues_dropPixel_iterate hcounted n
  have hhead : (runValues (dropPixel^[n] left)).head? = some ((runValues left).getD n 0) := by
    rw [hvalues, List.head?_drop, List.getD_eq_getElem?_getD, List.getElem?_eq_getElem hn, Option.getD_some]
  rw [StoreWriter.pixel_write (w := (s.written tag left written win k n).writer) hwindow rfl hk
    (counted_dropPixel_iterate hcounted n) hhead, hvalues, List.length_drop, IndexStore.writes_write_succ,
    Function.iterate_succ_apply', Nat.sub_sub]
  have hends : ((runValues left).length - n = 1 ∨ k + n + 1 = win.width * win.height)
      ↔ (n + 1 = (runValues left).length ∨ k + (n + 1) = win.width * win.height) := by omega
  simp only [hends]
  rfl

include hcleared hrunning hcounted hwindow hcursor

theorem State.workPixels_write (hn : n < (runValues left).length) (hk : k + n < win.width * win.height) :
    State.workPixels n s = s.written tag left written win k n := by
  induction n with
  | zero =>
    have hsame : s.written tag left written win k 0 = { s with writer := { s.writer with
      cursor := some (win.cursorAt k), running := some ⟨tag, .write left written⟩ } } := rfl
    rw [hsame, ← hrunning, ← hcursor]
    rfl
  | succ n ih =>
    have ih := ih (by omega) (by omega)
    have hpixel := State.pixel_written (s := s) (tag := tag) (written := written) hcounted hwindow (n := n) (k := k)
      (by omega) (by omega)
    rw [if_neg (by omega)] at hpixel
    rw [State.workPixels_succ' (by rw [ih]; exact State.working_of_running rfl), ih,
      State.workPixel_goesOn (s := s.written tag left written win k n)
        (r := ⟨tag, .write (dropPixel^[n] left) (written + n)⟩)
        (hcleared.trans_eq (IndexStore.writes_progress ..).symm) rfl hpixel]
    rw [State.written, State.written, ← Nat.sub_sub]

theorem State.workPixels_write_last (hpos : 0 < n) (hn : n ≤ (runValues left).length)
    (hk : k + n ≤ win.width * win.height) (hlast : n = (runValues left).length ∨ k + n = win.width * win.height) :
    State.workPixels n s = (s.writeDone tag left written win k n).startNext := by
  obtain ⟨m, rfl⟩ := Nat.exists_eq_succ_of_ne_zero hpos.ne'
  have hbefore := State.workPixels_write hcleared hrunning hcounted hwindow hcursor (n := m) (by omega) (by omega)
  have hpixel := State.pixel_written (s := s) (tag := tag) (written := written) hcounted hwindow (n := m) (k := k)
    (by omega) (by omega)
  rw [if_pos hlast] at hpixel
  rw [State.workPixels_succ' (by rw [hbefore]; exact State.working_of_running rfl), hbefore,
    State.workPixel_ended (s := s.written tag left written win k m)
      (r := ⟨tag, .write (dropPixel^[m] left) (written + m)⟩)
      (hcleared.trans_eq (IndexStore.writes_progress ..).symm) rfl hpixel]
  rw [State.written, State.writeDone, Nat.succ_eq_add_one, ← Nat.sub_sub _ m 1]
  rfl

end

/-- A writer with a cursor in its valid window, running no FILL, is inside the store. -/
theorem StoreWriter.windowFits_of_cursorAt {w : StoreWriter} {win : Window} {k : Nat} (hwindow : w.window = some win)
    (hvalid : win.valid = true) (hcursor : w.cursor = some (win.cursorAt k)) : w.windowFits := by
  intro win' hwin'
  obtain rfl := Option.some.inj (hwindow.symm.trans hwin')
  refine ⟨hvalid, fun c hc => ?_⟩
  obtain rfl := Option.some.inj (hcursor.symm.trans hc)
  exact Window.cursorAt_within win k

/-- Settles O44: the WRITE is not done with this allowance, or it is, and the waiting jobs have the rest of it. -/
theorem paceStepWritesRunsAtTheCursor : Obligations.PaceStepWritesRunsAtTheCursor := by
  intro s tag left written k win hcleared hrunning hcounted hleft hwindow hvalid hk hcursor hallowance hwf values m
  have hin : s.writer.inStore = true := (StoreWriter.inStore_iff _).mpr
    ⟨StoreWriter.windowFits_of_cursorAt hwindow hvalid hcursor, fun _ _ _ _ hfill => by
      rw [hrunning] at hfill
      cases hfill⟩
  have hvalues : 0 < values.length := List.length_pos_iff.mpr (mt (runValues_eq_nil_iff hcounted).mp hleft)
  have hlength : (runValues left).length = values.length := rfl
  have hpace := exec_paceStep hin
  by_cases hmore : m < values.length ∧ k + m < win.width * win.height
  · have hm : m = s.writer.allowance := by omega
    rw [← hm, State.workPixels_write hcleared hrunning hcounted hwindow hcursor hmore.1 hmore.2] at hpace
    refine ⟨s.written tag left written win k m, rfl,
      fun j v hj hv => IndexStore.read_writes_write hwf hvalid (by omega) hj hv,
      fun a ha => IndexStore.read_writes_write_other hwf ha, ?_⟩
    rw [if_pos hmore]
    refine ⟨⟨dropPixel^[m] left, runValues_dropPixel_iterate hcounted m, ?_⟩, rfl, rfl, hpace⟩
    rw [State.written, ← hm, Nat.sub_self]
  · refine ⟨s.writeDone tag left written win k m, ?_,
      fun j v hj hv => IndexStore.read_writes_write hwf hvalid (by omega) hj hv,
      fun a ha => IndexStore.read_writes_write_other hwf ha, ?_⟩
    · rw [State.writeDone, State.endJob_eq]
      rfl
    rw [if_neg hmore]
    exact ⟨rfl, State.endJob_jobAnswered rfl rfl rfl .., State.paceGoesOnFrom_of hin (by omega)
      (State.workPixels_write_last hcleared hrunning hcounted hwindow hcursor (by omega) (by omega) (by omega)
        (by omega)) rfl (StoreWriter.windowFits_of_cursorAt hwindow hvalid rfl) rfl
      (hcleared.trans_eq (IndexStore.writes_progress ..).symm)⟩

/-! ### READ (R95) -/

/-- A pixel of a READ at the `k`-th position of the window. -/
theorem StoreWriter.pixel_read {w : StoreWriter} {win : Window} {k : Nat} (hwindow : w.window = some win)
    (hcursor : w.cursor = some (win.cursorAt k)) (hk : k < win.width * win.height) (st : IndexStore) (left : Nat)
    (got : List Byte) :
    w.pixel st (.read left got) = (st, some (win.cursorAt (k + 1)),
      if left ≤ 1 ∨ win.width * win.height ≤ k + 1 then
        .ended ⟨.done, some (win.cursorAt (k + 1)), got ++ [st.read (win.entryAt k)]⟩
      else .goesOn (.read (left - 1) (got ++ [st.read (win.entryAt k)]))) := by
  obtain ⟨column, row, hcolumn, hrow, rfl⟩ := Window.exists_placeOf hk
  rw [Window.cursorAt_placeOf hcolumn hrow] at hcursor
  simp only [StoreWriter.pixel, hwindow, hcursor, Window.advance_eq_cursorAt hcolumn hrow,
    Window.entryAt_placeOf hcolumn hrow, Window.cursorAt_eq_exhausted_iff]
  split
  · rfl
  · rfl

/-- The indices that a READ has after `n` pixels from the `k`-th position on. -/
def IndexStore.readList (st : IndexStore) (win : Window) (k : Nat) (got : List Byte) (n : Nat) : List Byte :=
  got ++ (List.range n).map (fun j => st.read (win.entryAt (k + j)))

theorem IndexStore.readList_succ (st : IndexStore) (win : Window) (k : Nat) (got : List Byte) (n : Nat) :
    st.readList win k got (n + 1) = st.readList win k got n ++ [st.read (win.entryAt (k + n))] := by
  rw [IndexStore.readList, List.range_succ, List.map_append, ← List.append_assoc]
  rfl

/-- The part after `n` pixels of a READ, not the last among them. -/
def State.readOn (s : State) (tag : Half) (left : Nat) (got : List Byte) (win : Window) (k n : Nat) : State := { s with
  writer := { s.writer with
    cursor := some (win.cursorAt (k + n))
    running := some ⟨tag, .read (left - n) (s.store.readList win k got n)⟩
    allowance := s.writer.allowance - n } }

/-- The part as a READ ends, `n` pixels on. -/
def State.readDone (s : State) (tag : Half) (got : List Byte) (win : Window) (k n : Nat) : State :=
  { s with
    writer := { s.writer with
      cursor := some (win.cursorAt (k + n)), running := none, allowance := s.writer.allowance - n } : State }.endJob
    tag 0x13 ⟨.done, some (win.cursorAt (k + n)), s.store.readList win k got n⟩

section
variable {s : State} {tag : Half} {left k n : Nat} {got : List Byte} {win : Window}
  (hcleared : 262144 ≤ s.store.progress) (hrunning : s.writer.running = some ⟨tag, .read left got⟩)
  (hwindow : s.writer.window = some win) (hcursor : s.writer.cursor = some (win.cursorAt k))

include hcleared hrunning hwindow hcursor

theorem State.workPixels_read (hn : n < left) (hk : k + n < win.width * win.height) :
    State.workPixels n s = s.readOn tag left got win k n := by
  induction n with
  | zero =>
    have hsame : s.readOn tag left got win k 0 = { s with writer := { s.writer with
        cursor := some (win.cursorAt k), running := some ⟨tag, .read left got⟩ } } := by
      rw [State.readOn, IndexStore.readList, List.range_zero, List.map_nil, List.append_nil]
      rfl
    rw [hsame, ← hrunning, ← hcursor]
    rfl
  | succ n ih =>
    have ih := ih (by omega) (by omega)
    have hpixel := StoreWriter.pixel_read (w := (s.readOn tag left got win k n).writer) (k := k + n) hwindow rfl
      (by omega) s.store (left - n) (s.store.readList win k got n)
    rw [if_neg (by omega)] at hpixel
    rw [State.workPixels_succ' (by rw [ih]; exact State.working_of_running rfl), ih,
      State.workPixel_goesOn (s := s.readOn tag left got win k n)
        (r := ⟨tag, .read (left - n) (s.store.readList win k got n)⟩) hcleared rfl hpixel]
    rw [State.readOn, State.readOn, IndexStore.readList_succ, ← Nat.sub_sub, ← Nat.sub_sub]
    rfl

theorem State.workPixels_read_last (hpos : 0 < n) (hn : n ≤ left) (hk : k + n ≤ win.width * win.height)
    (hlast : n = left ∨ k + n = win.width * win.height) :
    State.workPixels n s = (s.readDone tag got win k n).startNext := by
  obtain ⟨m, rfl⟩ := Nat.exists_eq_succ_of_ne_zero hpos.ne'
  have hbefore := State.workPixels_read hcleared hrunning hwindow hcursor (n := m) (by omega) (by omega)
  have hpixel := StoreWriter.pixel_read (w := (s.readOn tag left got win k m).writer) (k := k + m) hwindow rfl
    (by omega) s.store (left - m) (s.store.readList win k got m)
  rw [if_pos (by omega)] at hpixel
  rw [State.workPixels_succ' (by rw [hbefore]; exact State.working_of_running rfl), hbefore,
    State.workPixel_ended (s := s.readOn tag left got win k m)
      (r := ⟨tag, .read (left - m) (s.store.readList win k got m)⟩) hcleared rfl hpixel]
  rw [State.readOn, State.readDone, Nat.succ_eq_add_one, IndexStore.readList_succ, ← Nat.sub_sub]
  rfl

end

/-- Settles O45: the READ is not done with this allowance, or it is, and the waiting jobs have the rest of it. -/
theorem paceStepReadsAtTheCursor : Obligations.PaceStepReadsAtTheCursor := by
  intro s tag left k got win hcleared hrunning hleft hwindow hvalid hk hcursor hallowance m list
  have hin : s.writer.inStore = true := (StoreWriter.inStore_iff _).mpr
    ⟨StoreWriter.windowFits_of_cursorAt hwindow hvalid hcursor, fun _ _ _ _ hfill => by
      rw [hrunning] at hfill
      cases hfill⟩
  have hpace := exec_paceStep hin
  by_cases hmore : m < left ∧ k + m < win.width * win.height
  · have hm : m = s.writer.allowance := by omega
    rw [← hm, State.workPixels_read hcleared hrunning hwindow hcursor hmore.1 hmore.2] at hpace
    refine ⟨s.readOn tag left got win k m, rfl, ?_⟩
    rw [if_pos hmore]
    refine ⟨?_, rfl, rfl, hpace⟩
    rw [State.readOn, ← hm, Nat.sub_self]
    rfl
  · refine ⟨s.readDone tag got win k m, ?_, ?_⟩
    · rw [State.readDone, State.endJob_eq]
      rfl
    rw [if_neg hmore]
    exact ⟨rfl, State.endJob_jobAnswered rfl rfl rfl .., State.paceGoesOnFrom_of hin (by omega)
      (State.workPixels_read_last hcleared hrunning hwindow hcursor (by omega) (by omega) (by omega) (by omega)) rfl
      (StoreWriter.windowFits_of_cursorAt hwindow hvalid rfl) rfl hcleared⟩

/-! ### Every pace step (R80, R90) -/

/-- The up-lane transmitter `v` is `u` with packets at the outbox's end and its counts of them changed. -/
def UpLane.PacketsAdded (u v : UpLane) : Prop := ∃ packets, v = { u with
  outbox := u.outbox ++ packets, reserved := v.reserved, lost := v.lost, upDrops := v.upDrops }

theorem UpLane.PacketsAdded.refl (u : UpLane) : u.PacketsAdded u := ⟨[], by rw [List.append_nil]⟩

theorem UpLane.PacketsAdded.trans {u v w : UpLane} (h : u.PacketsAdded v) (k : v.PacketsAdded w) :
    u.PacketsAdded w := by
  obtain ⟨p, hp⟩ := h
  obtain ⟨q, hq⟩ := k
  refine ⟨p ++ q, hq.trans ?_⟩
  rw [hp, ← List.append_assoc]

theorem UpLane.Offered.packetsAdded {u v : UpLane} (h : UpLane.Offered u v) : u.PacketsAdded v := by
  obtain ⟨packets, hout⟩ := h.outbox
  refine ⟨packets, ?_⟩
  rw [← hout, ← h.relay, ← h.sendCredits, ← h.creditsOwed, ← h.turn, ← h.relayOverflow, ← h.sending]

/-- All that pixels of work touch: the index store, the writer, the reply cache and the outbox. -/
def State.Paced (s t : State) : Prop :=
  t = { s with store := t.store, writer := t.writer, up := t.up, commands := { s.commands with cache := t.commands.cache } }
    ∧ s.up.PacketsAdded t.up

theorem State.Paced.refl (s : State) : s.Paced s := ⟨rfl, .refl _⟩

theorem State.Paced.trans {s t u : State} (h : s.Paced t) (k : t.Paced u) : s.Paced u := by
  obtain ⟨hs, hup⟩ := h
  obtain ⟨ht, hup'⟩ := k
  refine ⟨ht.trans ?_, hup.trans hup'⟩
  rw [hs]

theorem State.paced_withWriter (s : State) (st : IndexStore) (w : StoreWriter) :
    s.Paced { s with store := st, writer := w } := ⟨rfl, .refl _⟩

theorem State.paced_endJob (s : State) (tag : Half) (code : Byte) (e : Ending) : s.Paced (s.endJob tag code e) := by
  rw [State.endJob_eq]
  exact ⟨rfl, _, rfl⟩

theorem State.paced_offer (s : State) (o : Offer) : s.Paced (s.offer o) := by
  obtain ⟨u, hoffered, heq⟩ := s.offer_eq o
  rw [heq]
  exact ⟨rfl, hoffered.packetsAdded⟩

theorem State.paced_startNext (s : State) : s.Paced s.startNext :=
  State.startJobs_induction (P := fun _ => s.Paced) (Q := s.Paced) (fun _ h => h.trans (State.paced_withWriter _ _ _))
    (fun _ _ _ _ _ h _ => h.trans ((State.paced_withWriter _ _ _).trans (State.paced_endJob ..)))
    (fun _ _ _ _ _ h _ => h.trans (State.paced_withWriter _ _ _)) s.writer.jobs s (.refl s)

/-- A writer without work after its jobs started has none waiting. -/
theorem State.startNext_jobs (s : State) (hrest : s.startNext.working = false) : s.startNext.writer.jobs = [] :=
  State.startJobs_induction (P := fun _ _ => True) (Q := fun t => t.working = false → t.writer.jobs = [])
    (fun _ _ _ => rfl) (fun _ _ _ _ _ _ _ => trivial)
    (fun _ _ _ _ _ _ _ hrest => absurd (State.working_of_running rfl) (Bool.eq_false_iff.mp hrest))
    s.writer.jobs s trivial hrest

/-- What one pixel of work comes to: still work to do and nothing offered, or the waiting jobs start. -/
theorem State.workPixel_cases {s : State} (hworking : s.working = true) :
    (∃ st w, s.workPixel = { s with store := st, writer := w } ∧ s.workPixel.working = true
      ∧ w.allowance = s.writer.allowance - 1)
    ∨ (∃ u, s.Paced u ∧ s.workPixel = u.startNext ∧ u.writer.allowance = s.writer.allowance - 1) := by
  cases hclearing : s.clearing with
  | true =>
    unfold State.workPixel
    dsimp only
    rw [if_pos hclearing]
    split
    · next hmore =>
      refine .inl ⟨_, _, rfl, ?_, rfl⟩
      rw [State.working, hmore]
      rfl
    · refine .inr ⟨_, State.Paced.trans ?_ (State.paced_offer _ _), rfl, ?_⟩
      · exact State.paced_withWriter ..
      · rw [State.offer_eq_afterNotices]
        rfl
  | false =>
    have hcleared := s.clearing_eq_false_iff.mp hclearing
    cases hrunning : s.writer.running with
    | none => simp [State.working, hclearing, hrunning] at hworking
    | some r =>
      rcases hpixel : s.writer.pixel s.store r.progress with ⟨st, cursor, p | e⟩
      · rw [State.workPixel_ended hcleared hrunning hpixel]
        exact .inr ⟨_, (State.paced_withWriter ..).trans (State.paced_endJob ..), rfl, rfl⟩
      · rw [State.workPixel_goesOn hcleared hrunning hpixel]
        exact .inl ⟨_, _, rfl, State.working_of_running rfl, rfl⟩

theorem State.paced_workPixel {s : State} (hworking : s.working = true) : s.Paced s.workPixel := by
  rcases State.workPixel_cases hworking with ⟨st, w, heq, -, -⟩ | ⟨u, hpaced, heq, -⟩
  · rw [heq]
    exact State.paced_withWriter s st w
  · rw [heq]
    exact hpaced.trans (State.paced_startNext u)

theorem State.workPixel_allowance {s : State} (hworking : s.working = true) :
    s.workPixel.writer.allowance = s.writer.allowance - 1 := by
  rcases State.workPixel_cases hworking with ⟨st, w, heq, -, hallowance⟩ | ⟨u, -, heq, hallowance⟩
  · rw [heq]
    exact hallowance
  · rw [heq, State.startNext, State.startJobs_allowance]
    exact hallowance

theorem State.workPixel_jobs {s : State} (hworking : s.working = true) (hrest : s.workPixel.working = false) :
    s.workPixel.writer.jobs = [] := by
  rcases State.workPixel_cases hworking with ⟨st, w, -, hstill, -⟩ | ⟨u, -, heq, -⟩
  · rw [hstill] at hrest
    cases hrest
  · rw [heq] at hrest ⊢
    exact u.startNext_jobs hrest

theorem State.paced_workPixels (n : Nat) (s : State) : s.Paced (State.workPixels n s) := by
  induction n generalizing s with
  | zero => exact .refl s
  | succ n ih =>
    cases hworking : s.working with
    | false =>
      rw [State.workPixels_of_rest hworking]
      exact .refl s
    | true =>
      rw [State.workPixels_succ hworking]
      exact (State.paced_workPixel hworking).trans (ih _)

/-- Pixels from a working state on end with the allowance spent on them, or with no work, running or waiting. -/
theorem State.workPixels_end {s : State} (hworking : s.working = true) (n : Nat) :
    (State.workPixels n s).writer.allowance ≤ s.writer.allowance
    ∧ ((State.workPixels n s).writer.allowance = s.writer.allowance - n
      ∨ (State.workPixels n s).working = false ∧ (State.workPixels n s).writer.jobs = []) := by
  induction n generalizing s with
  | zero => exact ⟨le_rfl, .inl rfl⟩
  | succ n ih =>
    have hspent := State.workPixel_allowance hworking
    rw [State.workPixels_succ hworking]
    cases hnext : s.workPixel.working with
    | false =>
      rw [State.workPixels_of_rest hnext]
      exact ⟨by omega, .inr ⟨hnext, State.workPixel_jobs hworking hnext⟩⟩
    | true =>
      obtain ⟨hle, hend⟩ := ih hnext
      exact ⟨by omega, hend.imp_left (by omega)⟩

/-- Settles O46: the end of a pace step, and the start of the waiting jobs by the oldest job's work. -/
theorem paceStepSpendsTheAllowance : Obligations.PaceStepSpendsTheAllowance := by
  refine ⟨fun s hworking hallowance hin => ?_, fun s hjobs => State.startNext_nil hjobs, fun s j rest hjobs => ?_⟩
  · obtain ⟨hframe, packets, hup⟩ := State.paced_workPixels s.writer.allowance s
    obtain ⟨hle, hend⟩ := State.workPixels_end (s.working_iff.mpr hworking) s.writer.allowance
    refine ⟨_, packets, exec_paceStep hin, ?_, hle, hend.imp (fun hspent => by omega) fun ⟨hrest, hnone⟩ => ?_⟩
    · rw [← hup]
      exact hframe
    · rw [← Bool.not_eq_true, State.working_iff, not_or, Nat.not_lt, not_not] at hrest
      exact ⟨hrest.1, hrest.2, hnone⟩
  · intro refused runs
    obtain ⟨hwindow, hwrite, hfill, hread⟩ := s.startNext_cons j rest hjobs
    refine ⟨fun p hp => ?_, fun list hlist hne => ?_, fun value hvalue => ?_, hread⟩
    · rw [← windowCheck_eq]
      cases hcheck : windowCheck p with
      | some n => exact (hwindow p hp).1 n hcheck
      | none => exact (hwindow p hp).2 hcheck
    · rw [← firstBadRun_eq]
      cases hbad : firstBadRun list with
      | some i => exact (hwrite list hlist hne).1 i hbad
      | none => exact (hwrite list hlist hne).2 hbad
    · cases hpresent : s.writer.window with
      | none => exact (hfill value hvalue).1 hpresent
      | some win => exact (hfill value hvalue).2 win hpresent

end Sys2Proof.Machine
end

/-! PROOFS. What the operations on single blocks keep: the validity of pane records (R6), the ranges of the palette and
marker tables (R54, R122), the fade engine between its levels (R61, R63), and the tracker's records (R102, R117, R118). -/

section
namespace Sys2Proof.Machine

-- one theorem at a time, as in the tests: many threads' stacks at once exceed the check's memory limit
set_option Elab.async false

/-! ### Pane records (R6) -/

theorem PaneRec.still_scrollValid {p : PaneRec} (h : p.scroll = Scroll.still) : p.scrollValid = true := by
  simp only [PaneRec.scrollValid, h]
  rfl

theorem PaneRec.scrollValid_congr {p q : PaneRec} (hscroll : q.scroll = p.scroll) (hwidth : q.width = p.width)
    (hheight : q.height = p.height) : q.scrollValid = p.scrollValid := by
  simp only [PaneRec.scrollValid, hscroll, hwidth, hheight]

/-- A scrolling pane's band has an index. -/
theorem PaneRec.band_pos {p : PaneRec} (h : p.valid = true) (haxis : p.scroll.axis ≠ .none) : 1 ≤ p.scroll.band := by
  obtain ⟨-, -, hscroll⟩ := p.valid_iff.mp h
  unfold PaneRec.scrollValid at hscroll
  dsimp only at hscroll
  split at hscroll
  · next hnone => exact absurd hnone haxis
  · exact (of_decide_eq_true hscroll).1
  · exact (of_decide_eq_true hscroll).1

theorem ShadowPane.valid_iff (p : ShadowPane) : p.valid = true ↔ p.fields.valid = true
    ∧ ∀ o, p.requested = some o → p.fields.scroll.axis ≠ .none ∧ o < p.fields.scroll.band := by
  obtain ⟨fields, requested⟩ := p
  cases requested <;> simp [ShadowPane.valid]

theorem ActivePane.valid_iff (p : ActivePane) : p.valid = true ↔ p.fields.valid = true
    ∧ (p.fields.scroll.axis = .none → p.offset = 0)
    ∧ (p.fields.scroll.axis ≠ .none → p.offset < p.fields.scroll.band) := by
  rw [ActivePane.valid, Bool.and_eq_true]
  refine and_congr_right fun _ => ?_
  by_cases haxis : p.fields.scroll.axis = .none
  · simp [haxis]
  · simp [haxis]

/-- What the checks of Table 1-4 leave. -/
theorem of_paneSetCheck_none {p : PaneSetParams} (h : paneSetCheck p = none) :
    (p.screenX.toNat ≤ 2047 ∧ p.screenY.toNat ≤ 2047 ∧ (p.hscale = 1 ∨ p.hscale = 2)
      ∧ (p.vscale = 1 ∨ p.vscale = 2) ∧ p.opacity.toNat ≤ 16)
    ∧ footprintValid p.base.toNat p.stride.toNat p.width.toNat p.height.toNat = true := by
  unfold paneSetCheck at h
  dsimp only at h
  split_ifs at h with _ hscreen hsize hstride hscales hopacity _ hbase hfits
  rw [Config.storeEntries] at hbase
  rw [not_footprintFits_iff] at hfits
  refine ⟨⟨by omega, by omega, by tauto, by tauto, by omega⟩, (footprintValid_iff ..).mpr ⟨?_, ?_⟩⟩ <;> omega

theorem scale_toNat {b : Byte} (h : b = 1 ∨ b = 2) : b.toNat = 1 ∨ b.toNat = 2 := by
  rcases h with rfl | rfl
  · exact .inl rfl
  · exact .inr rfl

theorem ShadowPane.set_valid {old : ShadowPane} {p : PaneSetParams} (hold : old.valid = true)
    (hcheck : paneSetCheck p = none) : (old.set p).valid = true := by
  obtain ⟨⟨hx, hy, hhscale, hvscale, hopacity⟩, hfootprint⟩ := of_paneSetCheck_none hcheck
  obtain ⟨hfields, hrequested⟩ := old.valid_iff.mp hold
  rw [ShadowPane.valid_iff, PaneRec.valid_iff]
  by_cases hextent : extentChanges old.fields p.width.toNat p.height.toNat = true
  · have hset : (old.set p).fields.scroll = Scroll.still ∧ (old.set p).requested = none := by
      simp [ShadowPane.set, hextent]
    refine ⟨⟨⟨hx, hy, scale_toNat hhscale, scale_toNat hvscale, hopacity⟩, hfootprint,
      PaneRec.still_scrollValid hset.1⟩, fun o ho => ?_⟩
    rw [hset.2] at ho
    cases ho
  · have hset : (old.set p).fields.scroll = old.fields.scroll ∧ (old.set p).requested = old.requested := by
      simp [ShadowPane.set, hextent]
    have hsame : old.fields.width = p.width.toNat ∧ old.fields.height = p.height.toNat := by
      simpa [extentChanges, not_or] using hextent
    obtain ⟨-, -, hscroll⟩ := old.fields.valid_iff.mp hfields
    rw [hset.1, hset.2]
    refine ⟨⟨⟨hx, hy, scale_toNat hhscale, scale_toNat hvscale, hopacity⟩, hfootprint, ?_⟩, hrequested⟩
    rw [← hscroll]
    exact PaneRec.scrollValid_congr hset.1 hsame.1.symm hsame.2.symm

/-- What the checks of Table 3-4 leave of a descriptor that scrolls. -/
theorem of_paneScrollCheck_none {p : PaneScrollParams} {shadow : PaneRec} {axis : Axis}
    (hcheck : paneScrollCheck p shadow = none) (haxis : axisOf p.axis = some axis) (hscrolls : axis ≠ .none) :
    (-8 ≤ p.rate.toInt ∧ p.rate.toInt ≤ 8) ∧ 1 ≤ p.band.toNat
      ∧ p.lead.toNat + p.band.toNat + p.trail.toNat = (if axis = .vertical then shadow.height else shadow.width)
      ∧ (p.requestedPresent = 1 → p.requested.toNat < p.band.toNat) := by
  unfold paneScrollCheck at hcheck
  dsimp only at hcheck
  rw [haxis] at hcheck
  cases axis with
  | none => exact absurd rfl hscrolls
  | vertical | horizontal =>
    simp only [reduceCtorEq, ↓reduceIte] at hcheck ⊢
    split_ifs at hcheck with _ hrate _ _ hband hsum hoffset
    exact ⟨by omega, by omega, by omega, fun hpresent => Nat.not_le.mp fun hle => hoffset ⟨hpresent, hle⟩⟩

theorem axisOf_of_paneScrollCheck_none {p : PaneScrollParams} {shadow : PaneRec}
    (hcheck : paneScrollCheck p shadow = none) : ∃ axis, axisOf p.axis = some axis := by
  cases haxis : axisOf p.axis with
  | some axis => exact ⟨axis, rfl⟩
  | none =>
    unfold paneScrollCheck at hcheck
    dsimp only at hcheck
    rw [haxis] at hcheck
    split_ifs at hcheck

theorem ShadowPane.setScroll_valid {old : ShadowPane} {p : PaneScrollParams} (hold : old.valid = true)
    (hcheck : paneScrollCheck p old.fields = none) : (old.setScroll p).valid = true := by
  obtain ⟨hfields, -⟩ := old.valid_iff.mp hold
  obtain ⟨hranges, hfootprint, -⟩ := old.fields.valid_iff.mp hfields
  obtain ⟨axis, haxis⟩ := axisOf_of_paneScrollCheck_none hcheck
  rw [ShadowPane.valid_iff, PaneRec.valid_iff]
  unfold ShadowPane.setScroll scrollOf requestedOf
  rw [haxis]
  cases axis with
  | none => exact ⟨⟨hranges, hfootprint, PaneRec.still_scrollValid rfl⟩, fun o ho => nomatch ho⟩
  | vertical | horizontal =>
    obtain ⟨⟨hlow, hhigh⟩, hband, hextent, hoffset⟩ := of_paneScrollCheck_none hcheck haxis nofun
    refine ⟨⟨hranges, hfootprint, decide_eq_true ⟨hband, hextent, hlow, hhigh⟩⟩, fun o ho => ⟨nofun, ?_⟩⟩
    dsimp only at ho
    split_ifs at ho with hpresent
    obtain rfl := Option.some.inj ho
    exact hoffset hpresent

theorem State.panesValid_setShadow {s : State} (h : s.panesValid) {i : Fin 8} {p : ShadowPane} (hp : p.valid = true) :
    (s.withPanes (s.panes.setShadow i p)).panesValid := by
  refine ⟨fun j => ?_, h.2⟩
  rw [State.withPanes_panes, PaneTable.setShadow_shadow]
  split
  · exact hp
  · exact h.1 j

theorem State.panesValid_setStates {s : State} (h : s.panesValid) (select on : Byte) :
    (s.withPanes (s.panes.setStates select on)).panesValid := by
  refine ⟨fun j => ?_, h.2⟩
  rw [State.withPanes_panes, PaneTable.setStates_shadow]
  exact h.1 j

theorem ActivePane.restored_valid {a : ActivePane} (h : a.valid = true) :
    (⟨a.fields, none⟩ : ShadowPane).valid = true :=
  (ShadowPane.valid_iff _).mpr ⟨ActivePane.valid_fields h, fun _ ho => nomatch ho⟩

theorem State.panesValid_discard {s : State} (h : s.panesValid) : (s.withPanes s.panes.discard).panesValid := by
  refine ⟨fun j => ?_, h.2⟩
  rw [State.withPanes_panes, PaneTable.discard, vector_ofFn_fin]
  exact ActivePane.restored_valid (h.2 j)

theorem autoScroll_valid {a : ActivePane} (h : a.valid = true) : (autoScroll a).valid = true := by
  obtain ⟨hfields, hstill, hscrolls⟩ := a.valid_iff.mp h
  rw [ActivePane.valid_iff, autoScroll_fields, autoScroll_offset]
  refine ⟨hfields, fun haxis => ?_, fun haxis => ?_⟩
  · rw [if_neg (fun hmoves => hmoves.2.2 haxis)]
    exact hstill haxis
  · split
    · have hband := PaneRec.band_pos hfields haxis
      have hpos : (0 : Int) < a.fields.scroll.band := by omega
      have hlt := Int.emod_lt_of_pos ((a.offset : Int) + a.fields.scroll.rate) hpos
      have hnonneg := Int.emod_nonneg ((a.offset : Int) + a.fields.scroll.rate) hpos.ne'
      omega
    · exact hscrolls haxis

theorem commitPane_valid {sh : ShadowPane} {a : ActivePane} (hsh : sh.valid = true) (ha : a.valid = true) :
    (commitPane sh a).valid = true := by
  obtain ⟨hfields, hrequested⟩ := sh.valid_iff.mp hsh
  obtain ⟨-, hstill, hscrolls⟩ := a.valid_iff.mp ha
  rw [ActivePane.valid_iff]
  refine ⟨hfields, ?_⟩
  unfold commitPane
  dsimp only
  cases hreq : sh.requested with
  | some o =>
    obtain ⟨haxis, hlt⟩ := hrequested o hreq
    exact ⟨fun hnone => absurd hnone haxis, fun _ => hlt⟩
  | none =>
    dsimp only
    split
    · next hsame =>
      obtain ⟨haxis, -, hband, -⟩ := of_decide_eq_true hsame
      rw [haxis, hband]
      exact ⟨hstill, hscrolls⟩
    · exact ⟨fun _ => rfl, fun haxis => PaneRec.band_pos hfields haxis⟩

theorem startPane_valid {sh : ShadowPane} {a : ActivePane} (hsh : sh.valid = true) (ha : a.valid = true)
    (commit : Bool) : (startPane commit sh a).valid = true := by
  cases commit with
  | false => exact autoScroll_valid ha
  | true =>
    simp only [startPane, ↓reduceIte]
    split
    · exact commitPane_valid hsh ha
    · exact autoScroll_valid (commitPane_valid hsh ha)

theorem State.panesValid_frameStart {s : State} (h : s.panesValid) : s.frameStart.panesValid := by
  refine ⟨fun j => ?_, fun j => ?_⟩
  · change ((s.panes.frameStart s.commitPending).shadow[j]).valid = true
    obtain ⟨hfields, hrequested⟩ := ShadowPane.valid_iff _ |>.mp (h.1 j)
    rw [PaneTable.frameStart_shadow, ShadowPane.valid_iff]
    refine ⟨hfields, fun o ho => ?_⟩
    split at ho
    · cases ho
    · exact hrequested o ho
  · change ((s.panes.frameStart s.commitPending).active[j]).valid = true
    rw [PaneTable.frameStart_active]
    exact startPane_valid (h.1 j) (h.2 j) s.commitPending

theorem State.activeValid_of_panesValid {s : State} (h : s.panesValid) : s.panes.activeValid = true :=
  List.all_eq_true.mpr fun i _ => h.2 i

/-! ### Palette and markers (R54, R122) -/

theorem forall_mem_toList_iff {n : Nat} {α : Type} (v : Vector α n) (P : α → Prop) :
    (∀ e ∈ v.toList, P e) ↔ ∀ i : Fin n, P v[i] := by
  refine ⟨fun h i => h _ (Vector.mem_toList_iff.mpr (Vector.getElem_mem i.isLt)), fun h e he => ?_⟩
  obtain ⟨i, hi, rfl⟩ := List.getElem_of_mem he
  exact h ⟨i, by simpa using hi⟩

theorem firstBadEntry_eq_none_iff (entries : List PaletteEntry) :
    firstBadEntry entries = none ↔ ∀ e ∈ entries, e.opacity.toNat ≤ 16 := by
  simp only [firstBadEntry, List.findIdx?_eq_none_iff, decide_eq_false_iff_not, Nat.not_lt]

theorem loadEntries_opacity {v : Vector PaletteEntry 256} (hv : ∀ e ∈ v.toList, e.opacity.toNat ≤ 16)
    {entries : List PaletteEntry} (hentries : ∀ e ∈ entries, e.opacity.toNat ≤ 16) (first : Nat) :
    ∀ e ∈ (loadEntries v first entries).toList, e.opacity.toNat ≤ 16 := by
  rw [forall_mem_toList_iff] at hv ⊢
  intro i
  rw [loadEntries_getElem]
  split
  · exact hv i
  · cases hentry : entries[i.val - first]? with
    | none => exact hv i
    | some e => exact hentries e (List.mem_of_getElem? hentry)

theorem State.tablesInRange_frameStart {s : State} (h : s.tablesInRange) : s.frameStart.tablesInRange := by
  obtain ⟨hshadow, hactive, hshadowLines, hactiveLines⟩ := h
  unfold State.frameStart
  cases s.commitPending with
  | false => exact ⟨hshadow, hactive, hshadowLines, hactiveLines⟩
  | true => exact ⟨hshadow, hshadow, hshadowLines, hshadowLines⟩

/-! ### The fade engine (R61 to R63) -/

/-- The level of a ramp that rises, and of one that falls, as whole numbers (R63). -/
theorem rampLevel_eq (start target k n : Nat) : rampLevel start target k n
    = if start ≤ target then start + (target - start) * k / n else start - (start - target) * k / n := by
  unfold rampLevel
  split
  · next hle =>
    rw [← Nat.cast_sub hle, ← Nat.cast_mul, ← Int.ofNat_tdiv]
    generalize (target - start) * k / n = d
    omega
  · next hgt =>
    have hneg : ((target : Int) - start) * k = -(((start - target) * k : Nat) : Int) := by
      rw [Nat.cast_mul, Nat.cast_sub (by omega)]
      ring
    rw [hneg, Int.neg_tdiv, ← Int.ofNat_tdiv]
    generalize (start - target) * k / n = d
    omega

theorem rampLevel_between {start target k n : Nat} (hk : k ≤ n) :
    min start target ≤ rampLevel start target k n ∧ rampLevel start target k n ≤ max start target := by
  have hpart : ∀ d, d * k / n ≤ d := fun d => Nat.div_le_of_le_mul (by rw [Nat.mul_comm n]; exact Nat.mul_le_mul_left d hk)
  rw [rampLevel_eq]
  split
  · have hrise := hpart (target - start)
    generalize (target - start) * k / n = d at hrise ⊢
    omega
  · have hfall := hpart (start - target)
    generalize (start - target) * k / n = d at hfall ⊢
    omega

theorem rampLevel_end {start target n : Nat} (hn : 0 < n) : rampLevel start target n n = target := by
  rw [rampLevel_eq, Nat.mul_div_cancel _ hn, Nat.mul_div_cancel _ hn]
  split <;> omega

theorem FadeEngine.begin_sound {f : FadeEngine} (h : f.sound) {target frames : Nat} (htarget : target ≤ 16)
    (hframes : frames ≤ 255) : (f.begin target frames).sound := by
  obtain ⟨hlevel, -⟩ := h
  refine ⟨hlevel, hlevel, htarget, hframes, Nat.zero_le _, Nat.min_le_left .., Nat.le_max_left .., fun _ => ?_, nofun⟩
  exact Nat.eq_zero_or_pos frames

theorem FadeEngine.step_sound {f : FadeEngine} (h : f.sound) : f.step.sound := by
  obtain ⟨hlevel, hstart, htarget, hcount, hdone, hlow, hhigh, hleft, hrest⟩ := h
  unfold FadeEngine.step
  by_cases hramp : f.ramp = true
  · rw [if_pos hramp]
    by_cases hzero : f.count = 0
    · rw [if_pos hzero]
      exact ⟨htarget, hstart, htarget, hcount, hdone, Nat.min_le_right .., Nat.le_max_right .., nofun, fun _ => rfl⟩
    · rw [if_neg hzero]
      have hmore : f.done < f.count := (hleft hramp).resolve_left hzero
      obtain ⟨hmin, hmax⟩ := rampLevel_between (start := f.start) (target := f.target) (k := f.done + 1) hmore
      refine ⟨by dsimp only; omega, hstart, htarget, hcount, hmore, hmin, hmax, fun hstill => ?_, fun hends => ?_⟩
      · exact .inr (of_decide_eq_true hstill)
      · have hlast : f.done + 1 = f.count := by
          have hnot := of_decide_eq_false hends
          omega
        dsimp only
        rw [hlast]
        exact rampLevel_end (by omega)
  · rw [if_neg hramp]
    exact ⟨hlevel, hstart, htarget, hcount, hdone, hlow, hhigh, hleft, hrest⟩

/-! ### The tracker's records (R102, R117, R118) -/

/-- W and H of a frame record of this size rule, where present. -/
theorem FrameRecord.of_sizeFits {f : FrameRecord} {w h : Nat} (hfits : f.sizeFits = true) (hwidth : f.width = some w)
    (hlines : f.lines = some h) : 1 ≤ w ∧ w ≤ 2048 ∧ 1 ≤ h ∧ h ≤ 2048 := by
  obtain ⟨number, kind, width, lines, taken, opened, blanks, time, base⟩ := f
  obtain rfl : width = some w := hwidth
  obtain rfl : lines = some h := hlines
  cases kind with
  | passThrough => cases hfits
  | locked | internal => exact of_decide_eq_true hfits

theorem FrameRecord.lines_le {f : FrameRecord} (hfits : f.sizeFits = true) : f.lines.getD 0 ≤ 2048 := by
  obtain ⟨number, kind, width, lines, taken, opened, blanks, time, base⟩ := f
  cases lines with
  | none => exact Nat.zero_le _
  | some h =>
    cases width with
    | none => cases kind <;> cases hfits
    | some w => exact (FrameRecord.of_sizeFits hfits rfl rfl).2.2.2

theorem Tracker.modeFits_locked {t : Tracker} (hstate : t.state ≠ .freeRun) : t.modeFits = true ↔
    (t.frame.kind ≠ .internal ∧ t.generator = none ∧ t.lossStart.isSome ∧ t.lossStart = t.prevOpen
      ∧ t.frame.openTime = t.lossStart ∧ (t.frame.openedFrom = some .betweenFrames → t.frame.periodBase.isSome)) := by
  unfold Tracker.modeFits
  cases hs : t.state with
  | freeRun => exact absurd hs hstate
  | inFrame | betweenFrames => exact decide_eq_true_iff

theorem Tracker.modeFits_freeRun {t : Tracker} (hstate : t.state = .freeRun) : t.modeFits = true ↔
    (t.frame.kind = .internal ∧ t.lossStart = none ∧ t.prevOpen = none)
      ∧ ∃ g, t.generator = some g ∧ g.blanks ≤ 1023 ∧ 4000 ≤ g.period ∧ g.period ≤ 250000
        ∧ g.slot < t.frame.lines.getD 0 + g.blanks ∧ t.frame.linesTaken = min g.slot (t.frame.lines.getD 0) := by
  unfold Tracker.modeFits
  rw [hstate]
  dsimp only
  rw [Bool.and_eq_true, decide_eq_true_eq]
  refine and_congr_right fun _ => ?_
  cases t.generator with
  | none => exact ⟨fun h => (nomatch h), fun ⟨_, h, _⟩ => (nomatch h)⟩
  | some g => exact ⟨fun h => ⟨g, rfl, of_decide_eq_true h⟩, fun ⟨_, hg, h⟩ => by
      cases hg
      exact decide_eq_true h⟩

theorem Tracker.learn_inRange {t : Tracker} (htiming : t.timing.inRange) (hfits : t.frame.sizeFits = true) :
    t.learn.inRange := by
  rw [Tracker.learn_eq]
  split
  · next w h opened before hwidth hlines _ _ =>
    split
    · next hlearns =>
      obtain ⟨-, -, -, -, hblanks, hlow, hhigh⟩ := hlearns
      obtain ⟨hw1, hw2, hh1, hh2⟩ := FrameRecord.of_sizeFits hfits hwidth hlines
      exact ⟨hw1, hw2, hh1, hh2, hblanks, hlow, hhigh⟩
    · exact htiming
  · exact htiming

/-- The tracker as a frame is taken from the input. -/
theorem Tracker.takeOpen_sound {t : Tracker} (h : t.sound) (time : Nat) (number width lines : Half) :
    { t.takeOpen time number width lines with faults := FrameFaults.zero, blankCount := 0 }.sound := by
  obtain ⟨htiming, -, hmode⟩ := h
  have hrecord : ∀ (blanks : Nat), (openedRecord time number width lines t.state blanks t.prevOpen).sizeFits = true
      ∧ (openedRecord time number width lines t.state blanks t.prevOpen).kind ≠ .internal
      ∧ (openedRecord time number width lines t.state blanks t.prevOpen).openTime = some time
      ∧ (openedRecord time number width lines t.state blanks t.prevOpen).openedFrom = some t.state
      ∧ (openedRecord time number width lines t.state blanks t.prevOpen).periodBase = t.prevOpen := by
    intro blanks
    unfold openedRecord
    split
    · next hgood => exact ⟨decide_eq_true hgood, nofun, rfl, rfl, rfl⟩
    · exact ⟨rfl, nofun, rfl, rfl, rfl⟩
  obtain ⟨hsize, hkind, htime, hopened, hbase⟩ := hrecord (if t.state = .betweenFrames then t.blankCount else 0)
  rw [← Tracker.openRecord_eq] at hsize hkind htime hopened hbase
  refine ⟨htiming, hsize, ?_⟩
  rw [Tracker.modeFits_locked (by exact nofun)]
  refine ⟨hkind, rfl, rfl, rfl, htime, fun hbetween => ?_⟩
  have hstate : t.state = .betweenFrames := Option.some.inj (hopened.symm.trans hbetween)
  obtain ⟨-, -, hsome, hsame, -⟩ := (Tracker.modeFits_locked (by rw [hstate]; exact nofun)).mp hmode
  change (t.openRecord time number width lines).periodBase.isSome = true
  rw [hbase, ← hsame]
  exact hsome

/-- The tracker as an internal frame begins. -/
theorem Tracker.beginInternal_sound {t : Tracker} (h : t.timing.inRange) (time : Nat) :
    { t.beginInternal time with faults := FrameFaults.zero, blankCount := 0 }.sound := by
  obtain ⟨hw1, hw2, hh1, hh2, hblanks, hlow, hhigh⟩ := h
  refine ⟨⟨hw1, hw2, hh1, hh2, hblanks, hlow, hhigh⟩, decide_eq_true ⟨hw1, hw2, hh1, hh2⟩, ?_⟩
  rw [Tracker.modeFits_freeRun rfl]
  exact ⟨⟨rfl, rfl, rfl⟩, _, rfl, hblanks, hlow, hhigh, Nat.lt_of_lt_of_le hh1 (Nat.le_add_right _ _),
    (Nat.zero_min _).symm⟩

end Sys2Proof.Machine
end

/-! PROOFS. The store writer's soundness (R83, R86, R92, R94, R95), job by job: what the start of a job and a pixel of the
running job keep of it. -/

section
namespace Sys2Proof.Machine

-- one theorem at a time, as in the tests: many threads' stacks at once exceed the check's memory limit
set_option Elab.async false

/-! ### What soundness is for an idle and for a running writer -/

/-- The part of `State.writerSound` that is about the writer alone. -/
def StoreWriter.sound (w : StoreWriter) : Prop :=
  w.inStore = true ∧ w.runningFits = true ∧ (w.window.isSome ↔ w.cursor.isSome)

/-- Window and cursor: both there or neither, and inside the store. -/
def StoreWriter.placed (w : StoreWriter) : Prop := w.windowFits ∧ (w.window.isSome ↔ w.cursor.isSome)

/-- The running job has work left in a window, and its cursor stands where its kind needs it. -/
def Progress.fits (cursor : Option Cursor) (win : Window) : Progress → Prop
  | .fill _ captured written => captured = win ∧ written < win.positions ∧ cursor = some (.pos 0 0)
  | .write left _ => left ≠ [] ∧ cursor.isSome ∧ cursor ≠ some .exhausted
  | .read left _ => 1 ≤ left ∧ cursor.isSome ∧ cursor ≠ some .exhausted

theorem StoreWriter.sound_idle_iff {w : StoreWriter} (hidle : w.running = none) : w.sound ↔ w.placed := by
  have hfits : w.runningFits = true := by
    rw [StoreWriter.runningFits, hidle]
  have hin : w.inStore = true ↔ w.windowFits := by
    rw [StoreWriter.inStore_iff]
    exact and_iff_left fun _ _ _ _ hrunning => nomatch hidle.symm.trans hrunning
  rw [StoreWriter.sound, hin, StoreWriter.placed]
  exact and_congr_right fun _ => and_iff_right hfits

theorem StoreWriter.runningFits_iff {w : StoreWriter} {tag : Half} {p : Progress} (hrunning : w.running = some ⟨tag, p⟩) :
    w.runningFits = true ↔ ∃ win, w.window = some win ∧ p.fits w.cursor win := by
  rw [StoreWriter.runningFits, hrunning]
  cases hwindow : w.window with
  | none => exact ⟨nofun, fun ⟨_, h, _⟩ => nomatch h⟩
  | some win =>
    have hself : (∃ win', some win = some win' ∧ p.fits w.cursor win') ↔ p.fits w.cursor win :=
      ⟨fun ⟨_, h, hp⟩ => Option.some.inj h ▸ hp, fun hp => ⟨win, rfl, hp⟩⟩
    rw [hself]
    cases p with
    | fill | write | read => exact decide_eq_true_iff

theorem StoreWriter.sound_running_iff {w : StoreWriter} {tag : Half} {p : Progress}
    (hrunning : w.running = some ⟨tag, p⟩) :
    w.sound ↔ w.placed ∧ ∃ win, w.window = some win ∧ p.fits w.cursor win := by
  rw [StoreWriter.sound, StoreWriter.runningFits_iff hrunning, StoreWriter.inStore_iff, StoreWriter.placed]
  constructor
  · rintro ⟨⟨hfits, -⟩, hp, hsome⟩
    exact ⟨⟨hfits, hsome⟩, hp⟩
  · rintro ⟨⟨hfits, hsome⟩, win, hwindow, hp⟩
    refine ⟨⟨hfits, fun tag' value captured written hfill => ?_⟩, ⟨win, hwindow, hp⟩, hsome⟩
    obtain ⟨-, rfl⟩ := Running.mk.inj (Option.some.inj (hrunning.symm.trans hfill))
    obtain ⟨rfl, hwritten, -⟩ := hp
    exact ⟨(hfits _ hwindow).1, hwritten⟩

theorem StoreWriter.sound.placed {w : StoreWriter} (h : w.sound) : w.placed := by
  cases hrunning : w.running with
  | none => exact (StoreWriter.sound_idle_iff hrunning).mp h
  | some r => exact ((StoreWriter.sound_running_iff hrunning).mp h).1

/-- The waiting jobs have no part in it. -/
theorem StoreWriter.sound_withJobs {w : StoreWriter} {jobs : List Job} (h : w.sound) :
    StoreWriter.sound { w with jobs := jobs } := h

/-- A writer without jobs and without a window, as after a reset. -/
theorem StoreWriter.empty_sound (allowance : Nat) : (⟨none, none, [], none, allowance⟩ : StoreWriter).sound :=
  ⟨rfl, rfl, Iff.rfl⟩

/-! ### The start of a job -/

/-- The start of a job leaves the jobs, what runs and the allowance as they were. -/
theorem StoreWriter.startJob_eq (w : StoreWriter) (k : Work) :
    (w.startJob k).1 = { w with window := (w.startJob k).1.window, cursor := (w.startJob k).1.cursor } := by
  rcases w.startJob_cases k with ⟨e, heq⟩ | ⟨win, e, -, heq⟩ | ⟨win, value, -, heq⟩ | ⟨win, left, -, -, -, heq⟩
    | ⟨win, left, -, -, -, heq⟩ <;> rw [heq]

theorem StoreWriter.startJob_placed {w : StoreWriter} (h : w.placed) (k : Work) : (w.startJob k).1.placed := by
  refine ⟨StoreWriter.startJob_windowFits h.1 k, ?_⟩
  rcases w.startJob_cases k with ⟨e, heq⟩ | ⟨win, e, -, heq⟩ | ⟨win, value, hwindow, heq⟩ | ⟨win, left, -, -, -, heq⟩
    | ⟨win, left, -, -, -, heq⟩
  · rw [heq]
    exact h.2
  · rw [heq]
    exact Iff.rfl
  · rw [heq, hwindow]
    exact Iff.rfl
  · rw [heq]
    exact h.2
  · rw [heq]
    exact h.2

/-- A job that runs after its start fits the window. -/
theorem StoreWriter.startJob_fits {w w' : StoreWriter} {k : Work} {p : Progress} (h : w.placed)
    (hstart : w.startJob k = (w', .goesOn p)) : ∃ win, w'.window = some win ∧ p.fits w'.cursor win := by
  have hcursor : ∀ win, w.window = some win → w.cursor.isSome := fun win hwindow => h.2.mp (by rw [hwindow]; rfl)
  rcases w.startJob_cases k with ⟨e, heq⟩ | ⟨win, e, -, heq⟩ | ⟨win, value, hwindow, heq⟩
    | ⟨win, left, hwindow, hposition, hleft, heq⟩ | ⟨win, left, hwindow, hposition, hleft, heq⟩
  · rw [heq] at hstart
    cases hstart
  · rw [heq] at hstart
    cases hstart
  · rw [heq] at hstart
    cases hstart
    exact ⟨win, hwindow, rfl, Window.valid_positions_pos (h.1 win hwindow).1, rfl⟩
  · rw [heq] at hstart
    cases hstart
    exact ⟨win, hwindow, hleft, hcursor win hwindow, hposition⟩
  · rw [heq] at hstart
    cases hstart
    exact ⟨win, hwindow, hleft, hcursor win hwindow, hposition⟩

/-! ### A pixel of the running job -/

/-- What a pixel can do: a job at no position ends; a FILL writes an entry and the cursor stands still; a WRITE or READ
writes an entry or none, and the cursor advances. A job that goes on still fits the window. -/
theorem StoreWriter.pixel_cases (w : StoreWriter) (st : IndexStore) (p : Progress) :
    (∃ e, w.pixel st p = (st, w.cursor, .ended e))
    ∨ (∃ a v o, w.pixel st p = (st.write a v, w.cursor, o)
        ∧ ∀ q, o = .goesOn q → ∀ cursor win, p.fits cursor win → q.fits cursor win)
    ∨ (∃ win column row st' o, w.window = some win ∧ w.cursor = some (.pos column row)
        ∧ w.pixel st p = (st', some (win.advance column row), o) ∧ (st' = st ∨ ∃ a v, st' = st.write a v)
        ∧ ∀ q, o = .goesOn q → q.fits (some (win.advance column row)) win) := by
  cases p with
  | write left written =>
    unfold StoreWriter.pixel
    dsimp only
    split
    · next win column row value count rest hwindow hcursor =>
      split
      · exact .inr (.inr ⟨win, column, row, _, _, hwindow, hcursor, rfl, .inr ⟨_, _, rfl⟩, nofun⟩)
      · next hmore =>
        refine .inr (.inr ⟨win, column, row, _, _, hwindow, hcursor, rfl, .inr ⟨_, _, rfl⟩, fun q hq => ?_⟩)
        cases hq
        obtain ⟨hleft, hposition⟩ := not_or.mp hmore
        exact ⟨hleft, rfl, fun h => hposition (Option.some.inj h)⟩
    · exact .inl ⟨_, rfl⟩
  | fill value win written =>
    rcases Nat.lt_or_ge (written + 1) win.positions with hmore | hlast
    · refine .inr (.inl ⟨_, _, _, StoreWriter.pixel_fill_goesOn hmore w st value, fun q hq cursor win' hp => ?_⟩)
      cases hq
      obtain ⟨hwin, -, hcursor⟩ := hp
      exact ⟨hwin, hwin ▸ hmore, hcursor⟩
    · exact .inr (.inl ⟨_, _, _, StoreWriter.pixel_fill_ended hlast w st value, fun q hq => nomatch hq⟩)
  | read left got =>
    unfold StoreWriter.pixel
    dsimp only
    split
    · next win column row hwindow hcursor =>
      split
      · exact .inr (.inr ⟨win, column, row, _, _, hwindow, hcursor, rfl, .inl rfl, nofun⟩)
      · next hmore =>
        refine .inr (.inr ⟨win, column, row, _, _, hwindow, hcursor, rfl, .inl rfl, fun q hq => ?_⟩)
        cases hq
        obtain ⟨hleft, hposition⟩ := not_or.mp hmore
        exact ⟨by omega, rfl, fun h => hposition (Option.some.inj h)⟩
    · exact .inl ⟨_, rfl⟩

/-- A pixel writes one entry of the store, or none. -/
theorem StoreWriter.pixel_store (w : StoreWriter) (st : IndexStore) (p : Progress) :
    (w.pixel st p).1 = st ∨ ∃ a v, (w.pixel st p).1 = st.write a v := by
  rcases w.pixel_cases st p with ⟨e, heq⟩ | ⟨a, v, o, heq, -⟩ | ⟨win, column, row, st', o, -, -, heq, hst, -⟩ <;>
    rw [heq]
  · exact .inl rfl
  · exact .inr ⟨a, v, rfl⟩
  · exact hst

theorem IndexStore.wf_of_pixel {st st' : IndexStore} (h : st' = st ∨ ∃ a v, st' = st.write a v) (hwf : st.wf) :
    st'.wf := by
  rcases h with rfl | ⟨a, v, rfl⟩
  · exact hwf
  · exact st.write_wf a v hwf

theorem IndexStore.progress_of_pixel {st st' : IndexStore} (h : st' = st ∨ ∃ a v, st' = st.write a v) :
    st'.progress = st.progress := by
  rcases h with rfl | ⟨a, v, rfl⟩
  · rfl
  · exact st.write_progress a v

theorem Window.advance_within {w : Window} {column row : Nat} (h : (Cursor.pos column row).within w = true) :
    (w.advance column row).within w = true := by
  obtain ⟨hcolumn, hrow⟩ := of_decide_eq_true h
  rw [Window.advance_eq_cursorAt hcolumn hrow]
  exact Window.cursorAt_within ..

theorem StoreWriter.pixel_placed {w : StoreWriter} (h : w.placed) (st : IndexStore) (p : Progress)
    (running : Option Running) (allowance : Nat) :
    StoreWriter.placed { w with cursor := (w.pixel st p).2.1, running := running, allowance := allowance } := by
  rcases w.pixel_cases st p with ⟨e, heq⟩ | ⟨a, v, o, heq, -⟩ | ⟨win, column, row, st', o, hwindow, hcursor, heq, -, -⟩
  · rw [heq]
    exact h
  · rw [heq]
    exact h
  · rw [heq]
    refine ⟨fun win' hwin' => ⟨(h.1 win' hwin').1, ?_⟩, ?_⟩
    · rintro _ ⟨rfl⟩
      obtain rfl := Option.some.inj (hwindow.symm.trans hwin')
      exact Window.advance_within ((h.1 win hwindow).2 _ hcursor)
    · rw [hwindow]
      exact Iff.rfl

/-- A job that goes on after a pixel still fits the window. -/
theorem StoreWriter.pixel_fits {w : StoreWriter} {st st' : IndexStore} {p q : Progress} {cursor : Option Cursor}
    {win : Window} (hwindow : w.window = some win) (hp : p.fits w.cursor win)
    (hpixel : w.pixel st p = (st', cursor, .goesOn q)) : q.fits cursor win := by
  rcases w.pixel_cases st p with ⟨e, heq⟩ | ⟨a, v, o, heq, hfits⟩ | ⟨win', column, row, st'', o, hwin', -, heq, -, hfits⟩
  · rw [heq] at hpixel
    cases hpixel
  · rw [heq] at hpixel
    cases hpixel
    exact hfits q rfl _ _ hp
  · rw [heq] at hpixel
    cases hpixel
    obtain rfl := Option.some.inj (hwindow.symm.trans hwin')
    exact hfits q rfl

end Sys2Proof.Machine
end

/-! PROOFS. The actions that steps are made of: every step is a chain of them (`step_moves`), so that an invariant which
each action keeps is kept by every step (`State.kept_of_actions`). -/

section
namespace Sys2Proof.Machine

-- one theorem at a time, as in the tests: many threads' stacks at once exceed the check's memory limit
set_option Elab.async false

/-! ### Changes that move no work: counts, packets, records of the line -/

/-- From `u` to `v` the counts of the up-lane transmitter stay within their limits. -/
structure UpLane.CountsKept (u v : UpLane) : Prop where
  relay : u.relay.length ≤ 8 → v.relay.length ≤ 8 := by exact id
  sendCredits : u.sendCredits ≤ 255 → v.sendCredits ≤ 255 := by exact id
  creditsOwed : u.creditsOwed ≤ 255 → v.creditsOwed ≤ 255 := by exact id
  upDrops : u.upDrops ≤ 65535 → v.upDrops ≤ 65535 := by exact id
  relayOverflow : u.relayOverflow ≤ 65535 → v.relayOverflow ≤ 65535 := by exact id
  lost : u.lost ≤ 255 → v.lost ≤ 255 := by exact id

/-- In addition the reservations stay, and the packets beside them stay within the outbox. -/
structure UpLane.Kept (u v : UpLane) : Prop extends UpLane.CountsKept u v where
  reserved : v.reserved = u.reserved := by rfl
  room : u.outbox.length + u.reserved ≤ 32 → v.outbox.length + v.reserved ≤ 32 := by exact id

/-- The counts of the frame-fault record are in range (R103). -/
def FrameFaults.inRange (f : FrameFaults) : Prop :=
  f.width ≤ 65535 ∧ f.excess ≤ 65535 ∧ f.short ≤ 65535 ∧ f.strays ≤ 65535

/-- The overrun record is in range (R28). -/
def Overrun.inRange (o : Overrun) : Prop := o.paneLines ≤ 65535 ∧ o.firstLine.getD 0 ≤ 2047

/-- From `s` to `t` only counts, the records of the line, MARK, packets on the lanes, commit pending and the model's own
fields have changed, each count within its limit. -/
structure State.Tallies (s t : State) : Prop where
  address : t.address = s.address := by rfl
  panes : t.panes = s.panes := by rfl
  palette : t.palette = s.palette := by rfl
  fade : t.fade = s.fade := by rfl
  store : t.store = s.store := by rfl
  shadowMarkers : t.markers.shadow = s.markers.shadow := by rfl
  activeMarkers : t.markers.active = s.markers.active := by rfl
  state : t.tracker.state = s.tracker.state := by rfl
  frame : t.tracker.frame = s.tracker.frame := by rfl
  timing : t.tracker.timing = s.tracker.timing := by rfl
  generator : t.tracker.generator = s.tracker.generator := by rfl
  lossStart : t.tracker.lossStart = s.tracker.lossStart := by rfl
  prevOpen : t.tracker.prevOpen = s.tracker.prevOpen := by rfl
  window : t.writer.window = s.writer.window := by rfl
  cursor : t.writer.cursor = s.writer.cursor := by rfl
  jobs : t.writer.jobs = s.writer.jobs := by rfl
  running : t.writer.running = s.writer.running := by rfl
  queue : t.commands.queue = s.commands.queue := by rfl
  cache : t.commands.cache = s.commands.cache := by rfl
  config : t.commands.config = s.commands.config := by rfl
  up : s.up.Kept t.up := by exact {}
  badPackets : s.badPackets ≤ 65535 → t.badPackets ≤ 65535 := by exact id
  strays : s.tracker.strays ≤ 65535 → t.tracker.strays ≤ 65535 := by exact id
  framesCut : s.tracker.framesCut ≤ 65535 → t.tracker.framesCut ≤ 65535 := by exact id
  blankCount : s.tracker.blankCount ≤ 65535 → t.tracker.blankCount ≤ 65535 := by exact id
  faults : s.tracker.frame.sizeFits = true → s.tracker.faults.inRange → t.tracker.faults.inRange := by exact fun _ => id
  overrun : s.tracker.frame.sizeFits = true → s.compositor.overrun.inRange → t.compositor.overrun.inRange := by
    exact fun _ => id
  drops : s.commands.drops ≤ 65535 → t.commands.drops ≤ 65535 := by exact id
  allowance : s.writer.allowance ≤ 4096 → t.writer.allowance ≤ 4096 := by exact id

/-- From `s` to `t` a staged or set item has been written, each with values in its range. -/
structure State.Stages (s t : State) : Prop where
  frame : t = { s with
    panes := t.panes, palette := t.palette, markers := t.markers, fade := t.fade
    commands := { s.commands with config := t.commands.config } } := by rfl
  panes : s.panesValid → t.panesValid := by exact id
  tables : s.tablesInRange → t.tablesInRange := by exact id
  fade : s.fade.sound → t.fade.sound := by exact id
  interval : 20 ≤ s.commands.config.lossInterval ∧ s.commands.config.lossInterval ≤ 250 →
    20 ≤ t.commands.config.lossInterval ∧ t.commands.config.lossInterval ≤ 250 := by exact id

section
variable {s t : State} (h : s.Stages t)

include h

theorem State.Stages.store_eq : t.store = s.store := by rw [h.frame]

theorem State.Stages.tracker_eq : t.tracker = s.tracker := by rw [h.frame]

theorem State.Stages.writer_eq : t.writer = s.writer := by rw [h.frame]

theorem State.Stages.up_eq : t.up = s.up := by rw [h.frame]

theorem State.Stages.address_eq : t.address = s.address := by rw [h.frame]

theorem State.Stages.compositor_eq : t.compositor = s.compositor := by rw [h.frame]

theorem State.Stages.badPackets_eq : t.badPackets = s.badPackets := by rw [h.frame]

theorem State.Stages.queue_eq : t.commands.queue = s.commands.queue := by rw [h.frame]

theorem State.Stages.cache_eq : t.commands.cache = s.commands.cache := by rw [h.frame]

theorem State.Stages.drops_eq : t.commands.drops = s.commands.drops := by rw [h.frame]

end

/-- From `s` on the store and the store writer come to `st` and `w`: writes of entries alone, and work that costs
allowance and keeps the writer sound. -/
structure State.Works (s : State) (st : IndexStore) (w : StoreWriter) : Prop where
  wf : s.store.wf → st.wf := by exact id
  progress : st.progress = s.store.progress := by rfl
  sound : s.writer.sound → w.sound
  allowance : w.allowance ≤ s.writer.allowance := by exact le_rfl

/-! ### The actions -/

/-- The state with another count of lines taken. -/
def State.withLinesTaken (s : State) (n : Nat) : State :=
  s.withTracker { s.tracker with frame := { s.tracker.frame with linesTaken := n } }

/-- What steps are made of. -/
inductive State.Action : State → State → Prop
  | tallies {s t : State} (h : s.Tallies t) : Action s t
  | stages {s t : State} (h : s.Stages t) : Action s t
  | powerOn (s : State) (time powerOns orderings : Nat) (pending : List Instr) :
      Action s (State.afterPowerOn time powerOns orderings pending)
  | lineTaken {s : State} (hstate : s.tracker.state = .inFrame) :
      Action s (s.withLinesTaken (count16 s.tracker.frame.linesTaken))
  | slotTaken {s : State} {g : Generator} (hgenerator : s.tracker.generator = some g)
      (hmore : g.slot + 1 < s.tracker.frame.lines.getD 0 + g.blanks) :
      Action s (s.withTracker { s.tracker with
        frame := { s.tracker.frame with linesTaken := (if g.slot < s.tracker.frame.lines.getD 0 then
          count16 s.tracker.frame.linesTaken else s.tracker.frame.linesTaken) }
        generator := some { g with slot := g.slot + 1 } })
  | frameClosed {s : State} (hstate : s.tracker.state = .inFrame) :
      Action s (s.withTracker { s.tracker with timing := s.tracker.learn, state := .betweenFrames })
  | frameOpened (s : State) (time : Nat) (number width lines : Half) :
      Action s (s.withTracker (s.tracker.takeOpen time number width lines)).frameStart
  | internalBegun (s : State) (time : Nat) : Action s (s.withTracker (s.tracker.beginInternal time)).frameStart
  | reset (s : State) : Action s s.resetPart
  | addressed (s : State) {a : Nat} (ha : a ≤ 30) : Action s (s.withAddress a)
  | accepted {s : State} {tag : Half} (r : Request) (hroom : s.commands.queue.length < 16)
      (hfree : s.up.outbox.length + s.up.reserved < 32) (hnew : tag = 0 ∨ ¬ s.hasPending tag) :
      Action s ((s.withUp { s.up with reserved := s.up.reserved + 1 }).enqueue ⟨.addressed tag, r⟩)
  | broadcastQueued {s : State} (r : Request) (hroom : s.commands.queue.length < 16) :
      Action s (s.enqueue ⟨.broadcast, r⟩)
  | broadcastDone {s : State} {e : Entry} {rest : List Entry} (hqueue : s.commands.queue = e :: rest)
      (horigin : e.origin = .broadcast) : Action s s.popQueue
  | answered {s : State} {tag : Half} {r : Request} {rest : List Entry} {reply : Reply}
      (hqueue : s.commands.queue = ⟨.addressed tag, r⟩ :: rest) (htag : reply.tag = tag) :
      Action s (s.popQueue.answerJobs [reply])
  | handedOver {s : State} {tag : Half} {r : Request} {rest : List Entry} (k : Work)
      (hqueue : s.commands.queue = ⟨.addressed tag, r⟩ :: rest) (hroom : s.writer.jobs.length < 4) :
      Action s (s.popQueue.withWriter { s.writer with jobs := s.writer.jobs ++ [⟨tag, k⟩] })
  | cleared {s : State} {running : Option Running} (hclearing : s.clearing = true)
      (hstops : running = s.writer.running ∨ running = none) :
      Action s ((s.withStore s.store.clearOne).withWriter
        { s.writer with running := running, allowance := s.writer.allowance - 1 })
  | jobStarted {s : State} {j : Job} {w : StoreWriter} {p : Progress} (h : s.Works s.store w)
      (hcleared : s.clearing = false) (hidle : s.writer.running = none) (hjobs : s.writer.jobs = j :: w.jobs)
      (hruns : w.running = some ⟨j.tag, p⟩) : Action s (s.withWriter w)
  | jobWorked {s : State} {r : Running} {st : IndexStore} {w : StoreWriter} {p : Progress}
      (h : s.Works st w) (hrunning : s.writer.running = some r) (hjobs : w.jobs = s.writer.jobs)
      (hruns : w.running = some ⟨r.tag, p⟩) : Action s ((s.withStore st).withWriter w)
  | jobEnded {s : State} {r : Running} {st : IndexStore} {w : StoreWriter} {reply : Reply}
      (h : s.Works st w) (hrunning : s.writer.running = some r) (hjobs : w.jobs = s.writer.jobs)
      (hends : w.running = none) (htag : reply.tag = r.tag) :
      Action s (((s.withStore st).withWriter w).answerJobs [reply])
  | jobLeft {s : State} {j : Job} {w : StoreWriter} {reply : Reply} (h : s.Works s.store w)
      (hjobs : s.writer.jobs = j :: w.jobs) (hrunning : w.running = s.writer.running) (htag : reply.tag = j.tag) :
      Action s ((s.withWriter w).answerJobs [reply])

/-- A chain of actions. -/
abbrev State.Moves : State → State → Prop := Relation.ReflTransGen State.Action

theorem State.Action.moves {s t : State} (h : State.Action s t) : s.Moves t := .single h

theorem State.Tallies.moves {s t : State} (h : s.Tallies t) : s.Moves t := .single (.tallies h)

theorem State.Stages.moves {s t : State} (h : s.Stages t) : s.Moves t := .single (.stages h)

/-! ### Packets and offers -/

theorem UpLane.Offered.kept {u v : UpLane} (h : UpLane.Offered u v) : u.Kept v where
  relay := by rw [h.relay]; exact id
  sendCredits := by rw [h.sendCredits]; exact id
  creditsOwed := by rw [h.creditsOwed]; exact id
  upDrops := h.drops
  relayOverflow := by rw [h.relayOverflow]; exact id
  lost := h.lost
  reserved := h.reserved
  room := h.room

theorem State.tallies_withUp {s : State} {u : UpLane} (h : s.up.Kept u) : s.Tallies (s.withUp u) := { up := h }

theorem State.tallies_withDown (s : State) (d : DownLane) : s.Tallies (s.withDown d) := {}

theorem State.tallies_handDown (s : State) (p : DownPacket) : s.Tallies (s.handDown p) := {}

theorem State.tallies_handDownIf (s : State) (c : Bool) (p : DownPacket) : s.Tallies (s.handDownIf c p) := by
  rw [State.eq_withDown_handDownIf]
  exact {}

theorem State.tallies_offer (s : State) (o : Offer) : s.Tallies (s.offer o) := by
  obtain ⟨u, hoffered, heq⟩ := s.offer_eq o
  rw [heq]
  exact State.tallies_withUp hoffered.kept

theorem State.tallies_offerAll (s : State) (blocks : List (List Offer)) : s.Tallies (s.offerAll blocks) := by
  obtain ⟨u, n, hoffered, heq⟩ := s.offerAll_eq blocks
  rw [heq]
  exact { up := hoffered.kept }

theorem State.tallies_replyUnreserved (s : State) (tag : Half) (code : Byte) (status : Status) (payload : List Byte) :
    s.Tallies (s.replyUnreserved tag code status payload) :=
  State.tallies_withUp (UpLane.offerReply_offered ..).kept

theorem State.tallies_dropBad (s : State) : s.Tallies s.dropBad := { badPackets := fun _ => count16_le _ }

theorem State.tallies_countDrop (s : State) : s.Tallies s.countDrop := { drops := fun _ => count16_le _ }

/-! ### Frames -/

theorem State.moves_takeFrame (s : State) (time : Nat) (number width lines : Half) (ending : List (List Offer)) :
    s.Moves (s.takeFrame time number width lines ending) :=
  (State.Action.frameOpened s time number width lines).moves.trans
    ((State.tallies_handDown _ _).moves.trans (State.tallies_offerAll _ _).moves)

theorem State.moves_beginInternal (s : State) (time : Nat) (ending : List (List Offer)) :
    s.Moves (s.beginInternal time ending) :=
  (State.Action.internalBegun s time).moves.trans
    ((State.tallies_handDownIf _ _ _).moves.trans (State.tallies_offerAll _ _).moves)

/-- Short is counted in a frame whose H is in range. -/
theorem Tracker.endFaults_inRange {t : Tracker} (hfits : t.frame.sizeFits = true) (h : t.faults.inRange) :
    t.endFaults.inRange := by
  unfold Tracker.endFaults
  split
  · next lines _ hlines =>
    split
    · have hheight := FrameRecord.lines_le hfits
      rw [hlines, Option.getD_some] at hheight
      obtain ⟨hwidth, hexcess, -, hstrays⟩ := h
      refine ⟨hwidth, hexcess, ?_, hstrays⟩
      dsimp only
      omega
    · exact h
  · exact h

theorem State.tallies_recordShort (s : State) : s.Tallies s.recordShort where
  faults := fun hfits h => by
    rw [State.recordShort_tracker]
    exact Tracker.endFaults_inRange hfits h

theorem State.tallies_cutFrame (s : State) : s.Tallies s.cutFrame where
  framesCut := fun _ => count16_le _
  faults := fun hfits h => by
    rw [State.cutFrame_tracker]
    exact Tracker.endFaults_inRange hfits h

theorem State.moves_loseVideo (s : State) (time : Nat) : s.Moves (s.loseVideo time) := by
  unfold State.loseVideo
  dsimp only
  split
  · exact s.tallies_cutFrame.moves.trans ((State.tallies_handDown _ _).moves.trans (State.moves_beginInternal ..))
  · exact State.moves_beginInternal ..

theorem State.moves_compareLossTimer (s : State) (time : Nat) : s.Moves (s.compareLossTimer time) := by
  unfold State.compareLossTimer
  split
  · exact State.moves_loseVideo ..
  · exact .refl

theorem State.moves_frameOpen {time : Nat} {number width lines : Half} {s t : State}
    (h : exec (.frameOpen time number width lines) s = .next t) : s.Moves t := by
  cases hstate : s.tracker.state with
  | betweenFrames =>
    obtain rfl := Host.Outcome.next.inj ((exec_frameOpen_between hstate ..).symm.trans h)
    exact State.moves_takeFrame ..
  | inFrame =>
    obtain rfl := Host.Outcome.next.inj ((exec_frameOpen_inFrame hstate ..).symm.trans h)
    exact s.tallies_cutFrame.moves.trans ((State.tallies_handDown _ _).moves.trans (State.moves_takeFrame ..))
  | freeRun =>
    obtain rfl := Host.Outcome.next.inj ((exec_frameOpen_freeRun hstate ..).symm.trans h)
    have hmark : s.Tallies (s.withMarkers { s.markers with mark := false }) := {}
    exact hmark.moves.trans ((State.tallies_handDownIf _ _ _).moves.trans (State.moves_takeFrame ..))

theorem State.moves_closeFrame {s : State} (hstate : s.tracker.state = .inFrame) (number : Half) :
    s.Moves (s.closeFrame number) :=
  s.tallies_recordShort.moves.trans ((State.Action.frameClosed (s := s.recordShort) hstate).moves.trans
    ((State.tallies_handDown _ _).moves.trans (State.tallies_offerAll _ _).moves))

theorem State.tallies_discardStray (s : State) : s.Tallies s.discardStray where
  state := by
    unfold State.discardStray Tracker.stray
    split <;> rfl
  frame := by
    unfold State.discardStray Tracker.stray
    split <;> rfl
  timing := by
    unfold State.discardStray Tracker.stray
    split <;> rfl
  generator := by
    unfold State.discardStray Tracker.stray
    split <;> rfl
  lossStart := by
    unfold State.discardStray Tracker.stray
    split <;> rfl
  prevOpen := by
    unfold State.discardStray Tracker.stray
    split <;> rfl
  strays := fun _ => count16_le _
  faults := fun _ ⟨hwidth, hexcess, hshort, hstrays⟩ => by
    unfold State.discardStray Tracker.stray
    split
    · exact ⟨hwidth, hexcess, hshort, hstrays⟩
    · exact ⟨hwidth, hexcess, hshort, count16_le _⟩

theorem State.moves_frameClose {number : Half} {s t : State} (h : exec (.frameClose number) s = .next t) :
    s.Moves t := by
  by_cases hstate : s.tracker.state = .inFrame
  · obtain rfl := Host.Outcome.next.inj ((exec_frameClose_inFrame hstate number).symm.trans h)
    exact State.moves_closeFrame hstate number
  · obtain rfl := Host.Outcome.next.inj ((exec_frameClose_stray hstate number).symm.trans h)
    exact s.tallies_discardStray.moves

/-! ### Lines -/

theorem Overrun.afterLine_inRange {o : Overrun} (h : o.inRange) {y : Nat} (hy : y ≤ 2047) (skipped : PaneSet) :
    (o.afterLine y skipped).inRange := by
  obtain ⟨hlines, hfirst⟩ := h
  unfold Overrun.afterLine
  dsimp only
  split
  · exact ⟨hlines, hfirst⟩
  · refine ⟨Nat.min_le_right .., ?_⟩
    rw [Option.getD_some]
    cases hline : o.firstLine with
    | none => exact hy
    | some line =>
      rw [hline] at hfirst
      exact hfirst

/-- A composed line stands below H. -/
theorem FrameRecord.lt_lines_of_composed {f : FrameRecord} {y w : Nat} (hcomposed : f.composedWidth y = some w) :
    y < f.lines.getD 0 := by
  obtain ⟨number, kind, width, lines, taken, opened, blanks, time, base⟩ := f
  cases lines with
  | none => cases kind <;> cases width <;> cases hcomposed
  | some h =>
    by_contra hy
    unfold FrameRecord.composedWidth at hcomposed
    dsimp only [Option.getD_some] at hcomposed hy
    cases kind with
    | passThrough => cases hcomposed
    | locked | internal =>
      cases width with
      | none => cases hcomposed
      | some w =>
        exact nomatch (if_neg hy).symm.trans hcomposed

theorem State.afterNotices_offered (s : State) (os : List Offer) : UpLane.Offered s.up (s.afterNotices os) := by
  obtain ⟨u, hoffered, heq⟩ := State.offers_eq os s
  rw [State.offers_eq_afterNotices] at heq
  have hup : s.afterNotices os = u := congrArg State.up heq
  rwa [hup]

theorem State.tallies_activeLine (s : State) (y : Nat) : s.Tallies (s.activeLine y) := by
  cases hcomposed : s.tracker.frame.composedWidth y with
  | none =>
    rw [State.activeLine_of_passed hcomposed]
    exact { allowance := fun _ => Nat.le_of_ble_eq_true rfl }
  | some w =>
    rw [State.activeLine_of_composed hcomposed]
    refine { up := (s.afterNotices_offered _).kept, allowance := fun _ => Nat.le_of_ble_eq_true rfl, overrun := fun hfits h => ?_ }
    have hbelow := FrameRecord.lt_lines_of_composed hcomposed
    have hheight := FrameRecord.lines_le hfits
    exact Overrun.afterLine_inRange h (by omega) _

theorem State.tallies_blankLine (s : State) : s.Tallies s.blankLine := { allowance := fun _ => le_rfl }

theorem FrameRecord.lineFaults_inRange {f : FrameRecord} {y n : Nat} {faults : FrameFaults} (h : faults.inRange) :
    (f.lineFaults y n faults).inRange := by
  obtain ⟨hwidth, hexcess, hshort, hstrays⟩ := h
  unfold FrameRecord.lineFaults
  split
  · split
    · exact ⟨hwidth, count16_le _, hshort, hstrays⟩
    · split
      · exact ⟨count16_le _, hexcess, hshort, hstrays⟩
      · exact ⟨hwidth, hexcess, hshort, hstrays⟩
  · exact ⟨hwidth, hexcess, hshort, hstrays⟩

theorem State.moves_takeLine {s : State} (hstate : s.tracker.state = .inFrame) (pixels : List Pixel) :
    s.Moves (s.takeLine pixels) := by
  have hfaults : s.Tallies (s.withTracker { s.tracker with
      faults := s.tracker.frame.lineFaults s.tracker.frame.linesTaken pixels.length s.tracker.faults }) :=
    { faults := fun _ => FrameRecord.lineFaults_inRange }
  have htaken := State.Action.lineTaken (s := s.withTracker { s.tracker with
      faults := s.tracker.frame.lineFaults s.tracker.frame.linesTaken pixels.length s.tracker.faults }) hstate
  exact hfaults.moves.trans (htaken.moves.trans
    ((State.tallies_activeLine _ s.tracker.frame.linesTaken).moves.trans (State.tallies_handDown _ _).moves))

theorem State.moves_line {pixels : List Pixel} {s t : State} (h : exec (.line pixels) s = .next t) : s.Moves t := by
  rw [exec, execLine] at h
  split_ifs at h with hlong hstate hinvalid
  · obtain rfl := Host.Outcome.next.inj h
    exact s.tallies_dropBad.moves
  · obtain rfl := Host.Outcome.next.inj h
    exact State.moves_takeLine hstate pixels
  · obtain rfl := Host.Outcome.next.inj h
    exact s.tallies_discardStray.moves

theorem State.moves_blank {s t : State} (h : exec .blank s = .next t) : s.Moves t := by
  cases hstate : s.tracker.state with
  | betweenFrames =>
    obtain rfl := Host.Outcome.next.inj ((exec_blank_between hstate).symm.trans h)
    have hcount : s.Tallies (s.withTracker { s.tracker with blankCount := min (s.tracker.blankCount + 1) 65535 }) :=
      { blankCount := fun _ => Nat.min_le_right .. }
    exact hcount.moves.trans ((State.tallies_blankLine _).moves.trans (State.tallies_handDown _ _).moves)
  | inFrame =>
    obtain rfl := Host.Outcome.next.inj ((exec_blank_inFrame hstate).symm.trans h)
    exact s.tallies_discardStray.moves.trans
      ((State.tallies_blankLine _).moves.trans (State.tallies_handDown _ _).moves)
  | freeRun =>
    obtain rfl := Host.Outcome.next.inj ((exec_blank_freeRun hstate).symm.trans h)
    exact s.tallies_discardStray.moves

/-- What an active line does is not about the count of lines taken. -/
theorem State.activeLine_withLinesTaken (s : State) (y n : Nat) :
    (s.withLinesTaken n).activeLine y = (s.activeLine y).withLinesTaken n := by
  cases hcomposed : s.tracker.frame.composedWidth y with
  | none =>
    rw [State.activeLine_of_passed hcomposed, State.activeLine_of_passed (s := s.withLinesTaken n) hcomposed]
    rfl
  | some w =>
    rw [State.activeLine_of_composed hcomposed, State.activeLine_of_composed (s := s.withLinesTaken n) hcomposed]
    rfl

theorem State.handDownIf_withLinesTaken (s : State) (c : Bool) (p : DownPacket) (n : Nat) :
    (s.withLinesTaken n).handDownIf c p = (s.handDownIf c p).withLinesTaken n := by
  cases c <;> rfl

/-- An active slot's line, handed over, without the count of it. -/
def State.afterActiveSlot (s : State) (y : Nat) : State :=
  (s.activeLine y).handDownIf s.commands.config.freeRun
    (.line (s.composedLine y (List.replicate (s.tracker.frame.width.getD 0) s.palette.activeBackground)))

theorem State.nextInternal_withLinesTaken (s : State) (n time : Nat) :
    (s.withLinesTaken n).nextInternal time = s.nextInternal time := by
  have hhanded : (s.withLinesTaken n).handDownIf (s.withLinesTaken n).commands.config.freeRun
      (.frameClose (s.withLinesTaken n).tracker.frame.number)
      = (s.handDownIf s.commands.config.freeRun (.frameClose s.tracker.frame.number)).withLinesTaken n :=
    State.handDownIf_withLinesTaken ..
  rw [State.nextInternal, hhanded]
  rfl

theorem State.moves_nextInternal (s : State) (time : Nat) : s.Moves (s.nextInternal time) :=
  (State.tallies_handDownIf _ _ _).moves.trans (State.moves_beginInternal ..)

section
variable {s : State} {g : Generator} {lines : Nat} (hgenerator : s.tracker.generator = some g)
  (hlines : s.tracker.frame.lines.getD 0 = lines)

include hgenerator hlines

theorem State.moves_endSlot_line (hslot : g.slot < lines) :
    s.Moves ((s.withLinesTaken (count16 s.tracker.frame.linesTaken)).endSlot g lines) := by
  by_cases hmore : g.slot + 1 < lines + g.blanks
  · have htaken := State.Action.slotTaken hgenerator (by rwa [hlines])
    rw [hlines, if_pos hslot] at htaken
    rw [State.endSlot_of_more hmore]
    exact htaken.moves
  · rw [State.endSlot_of_last (Nat.not_lt.mp hmore), State.nextInternal_withLinesTaken]
    exact State.moves_nextInternal ..

theorem State.moves_endSlot_blank (hslot : lines ≤ g.slot) : s.Moves (s.endSlot g lines) := by
  by_cases hmore : g.slot + 1 < lines + g.blanks
  · have htaken := State.Action.slotTaken hgenerator (by rwa [hlines])
    rw [hlines, if_neg (Nat.not_lt.mpr hslot)] at htaken
    rw [State.endSlot_of_more hmore]
    exact htaken.moves
  · rw [State.endSlot_of_last (Nat.not_lt.mp hmore)]
    exact State.moves_nextInternal ..

theorem State.moves_internalLine (hslot : g.slot < lines) : s.Moves (s.internalLine g lines) := by
  have hline : s.internalLine g lines = ((s.afterActiveSlot g.slot).withLinesTaken
      (count16 (s.afterActiveSlot g.slot).tracker.frame.linesTaken)).endSlot g lines := by
    rw [State.afterActiveSlot, ← State.handDownIf_withLinesTaken, ← State.activeLine_withLinesTaken,
      State.handDownIf_tracker, State.activeLine_tracker]
    rfl
  rw [hline]
  refine (State.tallies_activeLine s g.slot).moves.trans ((State.tallies_handDownIf _ _ _).moves.trans
    (State.moves_endSlot_line ?_ ?_ hslot))
  · rw [State.handDownIf_tracker, State.activeLine_tracker]
    exact hgenerator
  · rw [State.handDownIf_tracker, State.activeLine_tracker]
    exact hlines

theorem State.moves_internalBlank (hslot : lines ≤ g.slot) : s.Moves (s.internalBlank g lines) := by
  refine s.tallies_blankLine.moves.trans ((State.tallies_handDownIf _ _ _).moves.trans
    (State.moves_endSlot_blank ?_ ?_ hslot))
  · rw [State.handDownIf_tracker]
    exact hgenerator
  · rw [State.handDownIf_tracker]
    exact hlines

end

theorem State.moves_internalActiveLine {time : Nat} {s t : State} (h : exec (.internalActiveLine time) s = .next t) :
    s.Moves t := by
  rw [exec, execInternalActiveLine] at h
  split at h
  · next g hgenerator =>
    dsimp only at h
    split_ifs at h with hdue
    · obtain rfl := Host.Outcome.next.inj h
      exact State.moves_internalLine hgenerator rfl hdue.1
    · obtain rfl := Host.Outcome.next.inj h
      exact .refl
  · obtain rfl := Host.Outcome.next.inj h
    exact .refl

theorem State.moves_internalBlankingLine {time : Nat} {s t : State}
    (h : exec (.internalBlankingLine time) s = .next t) : s.Moves t := by
  rw [exec, execInternalBlankingLine] at h
  split at h
  · next g hgenerator =>
    dsimp only at h
    split_ifs at h with hdue
    · obtain rfl := Host.Outcome.next.inj h
      exact State.moves_internalBlank hgenerator rfl hdue.1
    · obtain rfl := Host.Outcome.next.inj h
      exact .refl
  · obtain rfl := Host.Outcome.next.inj h
    exact .refl

end Sys2Proof.Machine
end

/-! PROOFS. Every other step as a chain of actions: the lanes, the commands that arrive, the commands at the queue head
and the pace step; and so every step (`step_moves`). -/

section
namespace Sys2Proof.Machine

-- one theorem at a time, as in the tests: many threads' stacks at once exceed the check's memory limit
set_option Elab.async false

/-! ### The lanes -/

theorem UpLane.sendOutbox_kept {u : UpLane} {p : UpPacket} {rest : List UpPacket} (hout : u.outbox = p :: rest) :
    u.Kept (u.sendOutbox p rest) where
  sendCredits := fun h => (Nat.sub_le ..).trans h
  room := fun h => by
    rw [hout, List.length_cons] at h
    dsimp only [UpLane.sendOutbox]
    omega

theorem UpLane.sendRelay_kept {u : UpLane} {b : List Byte} {rest : List (List Byte)} (hrelay : u.relay = b :: rest) :
    u.Kept (u.sendRelay b rest) where
  relay := fun h => by
    rw [hrelay, List.length_cons] at h
    exact (Nat.le_succ _).trans h
  sendCredits := fun h => (Nat.sub_le ..).trans h
  creditsOwed := fun _ => by
    rw [UpLane.sendRelay_eq]
    exact Nat.min_le_right ..

theorem UpLane.beginSend_kept {u v : UpLane} (h : u.beginSend = some v) : u.Kept v := by
  cases hrelay : u.relay with
  | nil =>
    cases hout : u.outbox with
    | nil => exact nomatch (UpLane.beginSend_none hrelay hout).symm.trans h
    | cons p rest =>
      obtain rfl := Option.some.inj ((UpLane.beginSend_outbox hout (.inl hrelay)).symm.trans h)
      exact UpLane.sendOutbox_kept hout
  | cons b brest =>
    cases hout : u.outbox with
    | nil =>
      obtain rfl := Option.some.inj ((UpLane.beginSend_relay hrelay (.inl hout)).symm.trans h)
      exact UpLane.sendRelay_kept hrelay
    | cons p prest =>
      cases hturn : u.turn with
      | relay =>
        obtain rfl := Option.some.inj ((UpLane.beginSend_relay hrelay (.inr hturn)).symm.trans h)
        exact UpLane.sendRelay_kept hrelay
      | outbox =>
        obtain rfl := Option.some.inj ((UpLane.beginSend_outbox hout (.inr hturn)).symm.trans h)
        exact UpLane.sendOutbox_kept hout

theorem State.moves_sendBegin {s t : State} (h : exec .sendBegin s = .next t) : s.Moves t := by
  rw [exec, execSendBegin] at h
  split at h
  · cases hbegin : s.up.beginSend with
    | none =>
      rw [hbegin] at h
      obtain rfl := Host.Outcome.next.inj h
      exact .refl
    | some u =>
      rw [hbegin] at h
      obtain rfl := Host.Outcome.next.inj h
      exact (State.tallies_withUp (UpLane.beginSend_kept hbegin)).moves
  · obtain rfl := Host.Outcome.next.inj h
    exact .refl

theorem State.moves_upLanePacket {bytes : List Byte} {s t : State} (h : exec (.upLanePacket bytes) s = .next t) :
    s.Moves t := by
  by_cases hroom : s.up.relay.length < 8
  · obtain rfl := Host.Outcome.next.inj ((exec_upLanePacket_of_room hroom bytes).symm.trans h)
    refine (State.tallies_withUp { relay := fun _ => ?_ }).moves
    rw [List.length_append]
    exact hroom
  · obtain rfl := Host.Outcome.next.inj ((exec_upLanePacket_of_full (Nat.not_lt.mp hroom) bytes).symm.trans h)
    exact (State.tallies_withUp { relayOverflow := fun _ => count16_le _ }).moves

theorem State.moves_creditEmission {s t : State} (h : exec .creditEmission s = .next t) : s.Moves t := by
  rw [exec, execCreditEmission] at h
  split at h
  · obtain rfl := Host.Outcome.next.inj h
    exact (s.tallies_withDown _).moves.trans (State.tallies_withUp { creditsOwed := fun _ => Nat.zero_le _ }).moves
  · obtain rfl := Host.Outcome.next.inj h
    exact .refl

theorem State.moves_packetEmission {s t : State} (h : exec .packetEmission s = .next t) : s.Moves t := by
  rw [exec, execPacketEmission] at h
  split at h
  · split at h
    · obtain rfl := Host.Outcome.next.inj h
      exact (s.tallies_withDown _).moves
    · obtain rfl := Host.Outcome.next.inj h
      exact .refl
  · obtain rfl := Host.Outcome.next.inj h
    exact .refl

theorem State.moves_badPacket {bytes : List Byte} {s t : State} (h : exec (.badPacket bytes) s = .next t) :
    s.Moves t := by
  cases hread : readPacket bytes with
  | none =>
    obtain rfl := Host.Outcome.next.inj ((exec_badPacket_of_bad hread s).symm.trans h)
    exact s.tallies_dropBad.moves
  | some p =>
    obtain rfl := Host.Outcome.next.inj ((exec_badPacket_of_good hread s).symm.trans h)
    exact .refl

/-! ### The store writer -/

/-- The start of a job, whose outcome is that it ends or that it runs. -/
theorem StoreWriter.startJob_frame {w w' : StoreWriter} {k : Work} {o : JobOutcome} (h : w.startJob k = (w', o)) :
    w' = { w with window := w'.window, cursor := w'.cursor } := by
  have hframe := w.startJob_eq k
  rw [h] at hframe
  exact hframe

theorem StoreWriter.startJob_ended_sound {w w' : StoreWriter} {k : Work} {e : Ending} (h : w.placed)
    (hidle : w.running = none) (hstart : w.startJob k = (w', .ended e)) : w'.sound := by
  have hplaced := StoreWriter.startJob_placed h k
  rw [hstart] at hplaced
  refine (StoreWriter.sound_idle_iff ?_).mpr hplaced
  rw [StoreWriter.startJob_frame hstart]
  exact hidle

theorem StoreWriter.startJob_goesOn_sound {w w' : StoreWriter} {k : Work} {p : Progress} (h : w.placed)
    (hstart : w.startJob k = (w', .goesOn p)) (tag : Half) :
    StoreWriter.sound { w' with running := some ⟨tag, p⟩ } := by
  have hplaced := StoreWriter.startJob_placed h k
  rw [hstart] at hplaced
  obtain ⟨win, hwindow, hfits⟩ := StoreWriter.startJob_fits h hstart
  exact (StoreWriter.sound_running_iff rfl).mpr ⟨hplaced, win, hwindow, hfits⟩

/-- The waiting jobs, started one after another by a writer without other work. -/
theorem State.moves_startJobs (jobs : List Job) {s : State} (hjobs : s.writer.jobs = jobs)
    (hidle : s.writer.running = none) (hcleared : s.clearing = false) : s.Moves (State.startJobs jobs s) := by
  induction jobs generalizing s with
  | nil =>
    have hemptied : s.Tallies (s.withWriter { s.writer with jobs := [], running := none }) :=
      { jobs := hjobs.symm, running := hidle.symm }
    exact hemptied.moves
  | cons j rest ih =>
    unfold State.startJobs
    split
    · next w e hstart =>
      have hframe := StoreWriter.startJob_frame hstart
      have hwjobs : w.jobs = rest := by rw [hframe]
      have hwidle : w.running = none := by rw [hframe]
      have hworks : s.Works s.store w :=
        { sound := fun h => StoreWriter.startJob_ended_sound (w := { s.writer with jobs := rest, running := none })
            h.placed rfl hstart
          allowance := by rw [hframe] }
      have hleft : s.Moves ((s.withWriter w).endJob j.tag (workCode j.work) e) := by
        rw [State.endJob_eq]
        exact (State.Action.jobLeft hworks (by rw [hwjobs, hjobs]) (by rw [hwidle, hidle]) rfl).moves
      exact hleft.trans (ih hwjobs hwidle hcleared)
    · next w p hstart =>
      have hframe := StoreWriter.startJob_frame hstart
      have hworks : s.Works s.store { w with running := some ⟨j.tag, p⟩ } :=
        { sound := fun h => StoreWriter.startJob_goesOn_sound (w := { s.writer with jobs := rest, running := none })
            h.placed hstart j.tag
          allowance := by rw [hframe] }
      refine (State.Action.jobStarted hworks hcleared hidle ?_ rfl).moves
      rw [hframe]
      exact hjobs

theorem State.moves_startNext {s : State} (hidle : s.writer.running = none) (hcleared : s.clearing = false) :
    s.Moves s.startNext := State.moves_startJobs _ rfl hidle hcleared

/-- What ran before is not looked at when the waiting jobs start. -/
theorem State.startNext_of_stopped (s : State) :
    (s.withWriter { s.writer with running := none }).startNext = s.startNext := by
  cases hjobs : s.writer.jobs with
  | nil =>
    rw [State.startNext_nil hjobs, State.startNext_nil (s := s.withWriter { s.writer with running := none }) hjobs]
    rfl
  | cons j rest =>
    rw [State.startNext, State.startNext, State.withWriter_writer, hjobs]
    rfl

theorem State.moves_handOver {s : State} {tag : Half} {r : Request} {rest : List Entry} (k : Work)
    (hqueue : s.commands.queue = ⟨.addressed tag, r⟩ :: rest) (hroom : s.writer.jobs.length < 4) :
    s.Moves (s.handOver tag k) := by
  have htaken := (State.Action.handedOver k hqueue hroom).moves
  unfold State.handOver
  dsimp only
  split
  · next hfree =>
    obtain ⟨hcleared, hidle⟩ := hfree
    exact htaken.trans (State.moves_startNext hidle hcleared)
  · exact htaken

theorem State.moves_clearPixel {s : State} (hclearing : s.clearing = true) : s.Moves s.workPixel := by
  have hcleared (running : Option Running) := State.Action.cleared (s := s) (running := running) hclearing
  unfold State.workPixel
  dsimp only
  rw [if_pos hclearing]
  split
  · exact (hcleared _ (.inl rfl)).moves
  · next hdone =>
    have hstopped : ∀ u : State, (u.offer ⟨.clearDone, []⟩).withWriter { u.writer with running := none }
        = (u.withWriter { u.writer with running := none }).offer ⟨.clearDone, []⟩ := fun u => by
      rw [State.offer_eq_afterNotices, State.offer_eq_afterNotices]
      rfl
    have hwriter : ∀ u : State, (u.offer ⟨.clearDone, []⟩).writer = u.writer := fun u => by
      rw [State.offer_eq_afterNotices]
      rfl
    rw [← State.startNext_of_stopped, hwriter, hstopped]
    refine (hcleared none (.inr rfl)).moves.trans ((State.tallies_offer _ _).moves.trans (State.moves_startNext ?_ ?_))
    · rw [hwriter]
      rfl
    · rw [State.offer_eq_afterNotices]
      exact Bool.eq_false_of_not_eq_true hdone

theorem State.moves_jobPixel {s : State} (hcleared : s.clearing = false) {r : Running}
    (hrunning : s.writer.running = some r) : s.Moves s.workPixel := by
  have hprogress := s.clearing_eq_false_iff.mp hcleared
  have hstore := s.writer.pixel_store s.store r.progress
  have hplaced := StoreWriter.pixel_placed (w := s.writer) (st := s.store) (p := r.progress)
  rcases hpixel : s.writer.pixel s.store r.progress with ⟨st, cursor, e | p⟩
  · rw [hpixel] at hstore hplaced
    have hworks : s.Works st { s.writer with
        cursor := cursor, running := none, allowance := s.writer.allowance - 1 } :=
      { wf := IndexStore.wf_of_pixel hstore
        progress := IndexStore.progress_of_pixel hstore
        sound := fun h => (StoreWriter.sound_idle_iff rfl).mpr (hplaced h.placed none _)
        allowance := Nat.sub_le .. }
    rw [State.workPixel_ended hprogress hrunning hpixel, State.endJob_eq]
    refine (State.Action.jobEnded hworks hrunning rfl rfl rfl).moves.trans (State.moves_startNext rfl ?_)
    rw [← hcleared]
    exact congrArg (fun n => decide (n < Config.storeEntries)) hworks.progress
  · rw [hpixel] at hstore hplaced
    have hworks : s.Works st { s.writer with
        cursor := cursor, running := some ⟨r.tag, p⟩, allowance := s.writer.allowance - 1 } :=
      { wf := IndexStore.wf_of_pixel hstore
        progress := IndexStore.progress_of_pixel hstore
        sound := fun h => by
          obtain ⟨hbefore, win, hwindow, hfits⟩ := (StoreWriter.sound_running_iff hrunning).mp h
          exact (StoreWriter.sound_running_iff rfl).mpr
            ⟨hplaced hbefore _ _, win, hwindow, StoreWriter.pixel_fits hwindow hfits hpixel⟩
        allowance := Nat.sub_le .. }
    rw [State.workPixel_goesOn hprogress hrunning hpixel]
    exact (State.Action.jobWorked hworks hrunning rfl rfl).moves

theorem State.moves_workPixel {s : State} (hworking : s.working = true) : s.Moves s.workPixel := by
  cases hclearing : s.clearing with
  | true => exact State.moves_clearPixel hclearing
  | false =>
    rw [State.working, hclearing, Bool.false_or, Option.isSome_iff_exists] at hworking
    obtain ⟨r, hrunning⟩ := hworking
    exact State.moves_jobPixel hclearing hrunning

/-- CANCEL's removal of the waiting jobs, oldest first. -/
theorem State.moves_cancelWaiting (jobs : List Job) {s : State} (hjobs : s.writer.jobs = jobs) :
    s.Moves ((s.withWriter { s.writer with jobs := [] }).answerJobs (jobs.map (waitingReply s.address))) := by
  induction jobs generalizing s with
  | nil =>
    rw [List.map_nil, State.answerJobs_nil]
    exact State.Tallies.moves { jobs := hjobs.symm }
  | cons j rest ih =>
    have hworks : s.Works s.store { s.writer with jobs := rest } := { sound := StoreWriter.sound_withJobs }
    have hleft : s.Moves ((s.withWriter { s.writer with jobs := rest }).answerJobs [waitingReply s.address j]) :=
      (State.Action.jobLeft hworks hjobs rfl rfl).moves
    rw [List.map_cons, ← List.singleton_append, State.answerJobs_append]
    exact hleft.trans (ih rfl)

theorem State.moves_cancelJobs (s : State) : s.Moves s.cancelJobs := by
  rw [State.cancelJobs_eq, runningReplies]
  cases hrunning : s.writer.running with
  | none =>
    have hidle : s.writer = { s.writer with running := none } := by rw [← hrunning]
    rw [List.nil_append]
    have hwaiting := State.moves_cancelWaiting s.writer.jobs (s := s) rfl
    rw [hidle] at hwaiting
    exact hwaiting
  | some r =>
    have hstopped : s.Works s.store { s.writer with running := none } :=
      { sound := fun h => (StoreWriter.sound_idle_iff rfl).mpr h.placed }
    have hended := State.Action.jobEnded (reply := jobReply s.address r.tag (progressCode r.progress)
      (cancelledRunning s.writer.cursor r.progress)) hstopped hrunning rfl rfl rfl
    dsimp only
    rw [State.answerJobs_append]
    exact hended.moves.trans (State.moves_cancelWaiting s.writer.jobs (by rfl))

/-! ### Commands that arrive -/

theorem State.tallies_clearCounters (s : State) : s.Tallies s.clearCounters where
  up := { upDrops := fun _ => Nat.zero_le _, relayOverflow := fun _ => Nat.zero_le _ }
  badPackets := fun _ => Nat.zero_le _
  strays := fun _ => Nat.zero_le _
  framesCut := fun _ => Nat.zero_le _
  drops := fun _ => Nat.zero_le _

theorem State.moves_takeStatus (s : State) (tag : Half) (flag : Option Byte) : s.Moves (s.takeStatus tag flag) := by
  unfold State.takeStatus
  split
  · exact (s.tallies_replyUnreserved ..).moves
  · split_ifs
    · exact (s.tallies_replyUnreserved ..).moves
    · exact s.tallies_clearCounters.moves.trans (State.tallies_replyUnreserved ..).moves
    · exact (s.tallies_replyUnreserved ..).moves

theorem State.moves_takeCancel (s : State) (tag : Half) : s.Moves (s.takeCancel tag) :=
  s.moves_cancelJobs.trans (State.tallies_replyUnreserved ..).moves

theorem State.moves_acceptQueued {s : State} {tag : Half} (hnew : tag = 0 ∨ ¬ s.hasPending tag) (r : Request) :
    s.Moves (s.acceptQueued tag r) := by
  by_cases hroom : s.commands.queue.length < 16
  · by_cases hfree : s.up.outbox.length + s.up.reserved < 32
    · rw [State.acceptQueued_granted hroom hfree]
      exact (State.Action.accepted r hroom hfree hnew).moves
    · rw [State.acceptQueued_lost hroom (Nat.not_lt.mp hfree)]
      exact (State.tallies_withUp (UpLane.drop_offered _).kept).moves
  · rw [State.acceptQueued_full (Nat.not_lt.mp hroom)]
    exact s.tallies_countDrop.moves.trans (State.tallies_replyUnreserved ..).moves

theorem State.moves_arriveQueued (s : State) (tag : Half) (r : Request) : s.Moves (s.arriveQueued tag r) := by
  unfold State.arriveQueued
  split
  · next htag => exact State.moves_acceptQueued (.inl htag) r
  · split
    · exact (s.tallies_replyUnreserved ..).moves
    · next hpending =>
      split
      · exact (State.tallies_withUp (UpLane.offerReply_offered ..).kept).moves
      · exact State.moves_acceptQueued (.inr ((s.pendingLocation_eq_none_iff tag).mp hpending)) r

theorem State.moves_takeAddressed (s : State) (time : Nat) (tag : Half) (code : Byte) (params : List Byte) :
    s.Moves (s.takeAddressed time tag code params) := by
  cases hread : readRequest code params with
  | none =>
    rw [takeAddressed_unreadable (.inl hread)]
    exact (s.tallies_replyUnreserved ..).moves
  | some r =>
    by_cases hclass : requestClass r = .urgent
    · unfold State.takeAddressed
      rw [hread]
      cases r with
      | status flag => exact s.moves_takeStatus tag flag
      | cancel => exact s.moves_takeCancel tag
      | resetPart =>
        exact (State.Action.reset s).moves.trans ((State.tallies_replyUnreserved ..).moves.trans
          (State.moves_compareLossTimer ..))
      | enumerate => exact (s.tallies_replyUnreserved ..).moves
      | _ => cases hclass
    · rw [takeAddressed_queued hread hclass]
      exact s.moves_arriveQueued tag r

theorem State.moves_takeEnumerate (s : State) (tag : Half) (a : Byte) : s.Moves (s.takeEnumerate tag a) := by
  unfold State.takeEnumerate
  split_ifs with hrange
  · exact (State.Action.addressed s hrange.2).moves.trans (State.tallies_replyUnreserved ..).moves
  · exact (State.Action.addressed s (a := 0) (Nat.zero_le 30)).moves.trans (State.tallies_replyUnreserved ..).moves
  · exact .refl

theorem State.moves_enqueueBroadcast (s : State) (r : Request) : s.Moves (s.enqueueBroadcast r) := by
  by_cases hroom : s.commands.queue.length < 16
  · rw [State.enqueueBroadcast_of_room hroom]
    exact (State.Action.broadcastQueued r hroom).moves
  · rw [State.enqueueBroadcast_of_full (Nat.not_lt.mp hroom)]
    exact s.tallies_countDrop.moves

theorem State.moves_takeBroadcast (s : State) (time : Nat) (tag : Half) (code : Byte) (params : List Byte) :
    s.Moves (s.takeBroadcast time tag code params) := by
  unfold State.takeBroadcast
  dsimp only
  split
  · exact (s.moves_takeEnumerate ..).trans (State.tallies_handDown ..).moves
  · exact (State.Action.reset s).moves.trans ((State.tallies_handDown ..).moves.trans
      (State.moves_compareLossTimer ..))
  · exact (s.moves_enqueueBroadcast _).trans (State.tallies_handDown ..).moves
  · exact (s.moves_enqueueBroadcast _).trans (State.tallies_handDown ..).moves
  · exact s.tallies_countDrop.moves.trans (State.tallies_handDown ..).moves

theorem State.moves_command {time : Nat} {dest : Byte} {tag : Half} {code : Byte} {params : List Byte} {s t : State}
    (h : exec (.command time dest tag code params) s = .next t) : s.Moves t := by
  rw [exec, execCommand] at h
  split_ifs at h
  · obtain rfl := Host.Outcome.next.inj h
    exact s.tallies_dropBad.moves
  · obtain rfl := Host.Outcome.next.inj h
    exact s.moves_takeAddressed ..
  · obtain rfl := Host.Outcome.next.inj h
    exact s.moves_takeBroadcast ..
  · obtain rfl := Host.Outcome.next.inj h
    exact (s.tallies_handDown _).moves

/-! ### Commands at the queue head -/

/-- The shadow copies restored from the active ones (R77). -/
def State.restored (s : State) : State :=
  ((s.withPanes s.panes.discard).withPalette s.palette.discard).withMarkers s.markers.discard

section
variable {s : State} {e : Entry} {rest : List Entry} (hqueue : s.commands.queue = e :: rest)

include hqueue

theorem State.moves_complete (status : Status) (payload : List Byte) : s.Moves (s.complete e status payload) := by
  obtain ⟨_ | _, r⟩ := e
  · next tag =>
    have hdone : s.complete ⟨.addressed tag, r⟩ status payload
        = s.popQueue.answerJobs [jobReply s.address tag (requestCode r) ⟨status, none, payload⟩] :=
      s.popQueue.endJob_eq tag (requestCode r) ⟨status, none, payload⟩
    rw [hdone]
    exact (State.Action.answered hqueue rfl).moves
  · exact (State.Action.broadcastDone hqueue rfl).moves

/-- A command that writes its item and completes. -/
theorem State.moves_stages_complete {u : State} (h : s.Stages u) (status : Status) (payload : List Byte) :
    s.Moves (u.complete e status payload) := by
  have hsame : u.commands.queue = e :: rest := by
    rw [h.frame]
    exact hqueue
  exact h.moves.trans (State.moves_complete hsame status payload)

theorem State.moves_paneSet (p : PaneSetParams) : s.Moves (s.paneSet e p) := by
  unfold State.paneSet
  split
  · exact State.moves_complete hqueue ..
  · next hcheck =>
    refine State.moves_stages_complete hqueue { panes := fun h => ?_ } ..
    exact State.panesValid_setShadow h (ShadowPane.set_valid (h.1 _) hcheck)

theorem State.moves_paneState (select on : Byte) : s.Moves (s.paneState e select on) := by
  unfold State.paneState
  split
  · exact State.moves_complete hqueue ..
  · exact State.moves_stages_complete hqueue { panes := fun h => State.panesValid_setStates h select on } ..

theorem State.moves_paneScroll (p : PaneScrollParams) : s.Moves (s.paneScroll e p) := by
  unfold State.paneScroll
  dsimp only
  split
  · exact State.moves_complete hqueue ..
  · next hcheck =>
    refine State.moves_stages_complete hqueue { panes := fun h => ?_ } ..
    exact State.panesValid_setShadow h (ShadowPane.setScroll_valid (h.1 _) hcheck)

theorem State.moves_paletteLoad (first : Byte) (entries : List PaletteEntry) :
    s.Moves (s.paletteLoad e first entries) := by
  unfold State.paletteLoad
  split
  · exact State.moves_complete hqueue ..
  · next hcheck =>
    have hgood : firstBadEntry entries = none := by
      unfold paletteLoadCheck at hcheck
      split_ifs at hcheck
      exact Option.map_eq_none_iff.mp hcheck
    refine State.moves_stages_complete hqueue { tables := fun ⟨hshadow, hactive, hlines⟩ => ?_ } ..
    exact ⟨loadEntries_opacity hshadow ((firstBadEntry_eq_none_iff entries).mp hgood) _, hactive, hlines⟩

theorem State.moves_markerSet (slot : Byte) (line : Half) (action : Byte) :
    s.Moves (s.markerSet e slot line action) := by
  unfold State.markerSet
  split
  · exact State.moves_complete hqueue ..
  · next hcheck =>
    have hline : line.toNat ≤ 2047 := by
      unfold markerSetCheck at hcheck
      split_ifs at hcheck with _ hline
      exact Nat.not_lt.mp hline
    refine State.moves_stages_complete hqueue { tables := fun ⟨hshadow, hactive, hlines, hactiveLines⟩ => ?_ } ..
    refine ⟨hshadow, hactive, fun i => ?_, hactiveLines⟩
    simp only [State.withMarkers_markers, Fin.getElem_fin, Vector.getElem_set]
    split
    · exact hline
    · exact hlines i

theorem State.moves_backgroundSet (c : Pixel) : s.Moves (s.backgroundSet e c) :=
  State.moves_stages_complete hqueue (u := s.withPalette { s.palette with shadowBackground := c }) {} ..

theorem State.moves_commit : s.Moves (s.commit e) := by
  have hflag : s.Tallies (s.withCommitPending true) := {}
  exact hflag.moves.trans (State.moves_complete (s := s.withCommitPending true) hqueue ..)

theorem State.moves_discard : s.Moves (s.discard e) := by
  have hrestored : s.Stages s.restored :=
    { panes := State.panesValid_discard
      tables := fun ⟨_, hactive, _, hactiveLines⟩ => ⟨hactive, hactive, hactiveLines, hactiveLines⟩ }
  have hflag : s.restored.Tallies (s.restored.withCommitPending false) := {}
  exact hrestored.moves.trans (hflag.moves.trans
    (State.moves_complete (s := s.restored.withCommitPending false) hqueue ..))

theorem State.moves_beginFade (target : Byte) (frames : Half) : s.Moves (s.beginFade e target frames) := by
  unfold State.beginFade
  split
  · exact State.moves_complete hqueue ..
  · next hcheck =>
    have hranges : target.toNat ≤ 16 ∧ frames.toNat ≤ 255 := by
      unfold fadeCheck at hcheck
      split_ifs at hcheck with htarget hframes
      exact ⟨Nat.not_lt.mp htarget, Nat.not_lt.mp hframes⟩
    exact State.moves_stages_complete hqueue
      { fade := fun h => FadeEngine.begin_sound h hranges.1 hranges.2 } ..

theorem State.moves_configure (time : Nat) (freeRun interval mask : Byte) :
    s.Moves (s.configure time e freeRun interval mask) := by
  unfold State.configure
  split
  · exact State.moves_complete hqueue ..
  · next hcheck =>
    have hinterval : 20 ≤ interval.toNat ∧ interval.toNat ≤ 250 := by
      unfold configCheck at hcheck
      split_ifs at hcheck with _ hinterval
      omega
    exact (State.moves_stages_complete hqueue { interval := fun _ => hinterval } ..).trans
      (State.moves_compareLossTimer ..)

theorem State.moves_queryPane (pane : Byte) : s.Moves (s.queryPane e pane) := by
  unfold State.queryPane
  split <;> exact State.moves_complete hqueue ..

theorem State.moves_queryPalette (first count copy : Byte) : s.Moves (s.queryPalette e first count copy) := by
  unfold State.queryPalette
  split <;> exact State.moves_complete hqueue ..

end

/-- The head that is due, taken; a store command finds room in the job queue. -/
theorem State.moves_takeEntry {s : State} {e : Entry} {rest : List Entry} (hqueue : s.commands.queue = e :: rest)
    (hroom : requestClass e.request = .store → s.writer.jobs.length < 4) (time : Nat) :
    s.Moves (s.takeEntry time e) := by
  obtain ⟨o, r⟩ := e
  cases r with
  | paneSet p => exact State.moves_paneSet hqueue p
  | paneState select on => exact State.moves_paneState hqueue select on
  | paneScroll p => exact State.moves_paneScroll hqueue p
  | paletteLoad first entries => exact State.moves_paletteLoad hqueue first entries
  | markerSet slot line action => exact State.moves_markerSet hqueue slot line action
  | backgroundSet c => exact State.moves_backgroundSet hqueue c
  | window | write | fill | read =>
    cases o with
    | addressed tag => exact State.moves_handOver _ hqueue (hroom rfl)
    | broadcast => exact .refl
  | commit => exact State.moves_commit hqueue
  | discard => exact State.moves_discard hqueue
  | fade target frames => exact State.moves_beginFade hqueue target frames
  | config freeRun interval mask => exact State.moves_configure hqueue time freeRun interval mask
  | queryPane pane => exact State.moves_queryPane hqueue pane
  | queryPalette first count copy => exact State.moves_queryPalette hqueue first count copy
  | identify => exact State.moves_complete hqueue ..
  | _ => exact .refl

theorem State.moves_head {c : Instr} (hc : runsAtHead c = true) {s t : State} (h : exec c s = .next t) :
    s.Moves t := by
  obtain rfl := Host.Outcome.next.inj ((exec_head hc s).symm.trans h)
  unfold State.takeHead
  split
  · next e hready =>
    split
    · obtain ⟨-, rest, hqueue⟩ := s.readyHead_some e hready
      refine State.moves_takeEntry hqueue (fun hclass => ?_) _
      rw [s.readyHead_store e rest hqueue hclass] at hready
      split_ifs at hready with hroom
      exact hroom
    · exact .refl
  · exact .refl

/-! ### The pace step, and every step -/

theorem State.moves_workPixels (n : Nat) (s : State) : s.Moves (State.workPixels n s) := by
  induction n generalizing s with
  | zero => exact .refl
  | succ n ih =>
    by_cases hworking : s.working = true
    · rw [State.workPixels_succ hworking]
      exact (State.moves_workPixel hworking).trans (ih _)
    · have hrest := State.workPixels_of_rest (Bool.eq_false_of_not_eq_true hworking) (n + 1)
      exact hrest.symm ▸ .refl

theorem State.moves_paceStep {s t : State} (h : exec .paceStep s = .next t) : s.Moves t := by
  rw [exec, execPaceStep] at h
  split_ifs at h
  · obtain rfl := Host.Outcome.next.inj h
    exact State.moves_workPixels ..
  · obtain rfl := Host.Outcome.next.inj h
    exact .refl

theorem exec_moves {c : Instr} {s t : State} (h : exec c s = .next t) : s.Moves t := by
  cases c with
  | powerOn time =>
    obtain rfl := Host.Outcome.next.inj ((exec_powerOn time s).symm.trans h)
    exact (State.Action.powerOn s ..).moves
  | badPacket => exact State.moves_badPacket h
  | frameOpen => exact State.moves_frameOpen h
  | line => exact State.moves_line h
  | blank => exact State.moves_blank h
  | frameClose => exact State.moves_frameClose h
  | lossTimerExpiry time =>
    obtain rfl := Host.Outcome.next.inj ((exec_lossTimerExpiry time s).symm.trans h)
    exact s.moves_compareLossTimer time
  | internalActiveLine => exact State.moves_internalActiveLine h
  | internalBlankingLine => exact State.moves_internalBlankingLine h
  | command => exact State.moves_command h
  | credit count =>
    obtain rfl := Host.Outcome.next.inj h
    exact (State.tallies_withUp { sendCredits := fun _ => Nat.min_le_right .. }).moves
  | upLanePacket => exact State.moves_upLanePacket h
  | sendBegin => exact State.moves_sendBegin h
  | sendEnd =>
    obtain rfl := Host.Outcome.next.inj h
    exact (State.tallies_withUp {}).moves
  | creditEmission => exact State.moves_creditEmission h
  | packetEmission => exact State.moves_packetEmission h
  | emissionEnd =>
    obtain rfl := Host.Outcome.next.inj h
    exact (s.tallies_withDown _).moves
  | paceStep => exact State.moves_paceStep h
  | paneSet | paneState | paneScroll | paletteLoad | markerSet | backgroundSet | window | write | fill | read | commit
  | discard | fade | config | queryPane | queryPalette | identify => exact State.moves_head rfl h

theorem step_moves {s t : State} (h : step s = .next t) : s.Moves t := by
  cases hpending : s.pending with
  | nil =>
    obtain rfl := Host.Outcome.next.inj ((step_of_pending_nil hpending).symm.trans h)
    exact .refl
  | cons c rest =>
    have hrest : s.Tallies { s with pending := rest } := {}
    refine hrest.moves.trans (exec_moves (c := c) ?_)
    rw [← step_cons, ← hpending]
    exact h

/-- An invariant that each action keeps is kept by every step. -/
theorem State.kept_of_actions {P : State → Prop} (hkept : ∀ {s t : State}, State.Action s t → P s → P t) {s t : State}
    (hs : P s) (h : step s = .next t) : P t := by
  have hmoves := step_moves h
  clear h
  induction hmoves with
  | refl => exact hs
  | tail _ haction ih => exact hkept haction ih

end Sys2Proof.Machine
end

/-! PROOFS. The invariants of single blocks: pane records, index store, fade engine, tracker and store writer (R6, R61,
R63, R83, R86, R92, R94, R95, R102, R114, R117, R118); and that no step from a sound state stops the machine. -/

section
namespace Sys2Proof.Machine

-- one theorem at a time, as in the tests: many threads' stacks at once exceed the check's memory limit
set_option Elab.async false

/-! ### Pane records (R6) -/

theorem State.panesValid_congr {s t : State} (h : t.panes = s.panes) (hs : s.panesValid) : t.panesValid := by
  unfold State.panesValid
  rw [h]
  exact hs

theorem State.Action.panesValid {s t : State} (h : State.Action s t) (hs : s.panesValid) : t.panesValid := by
  cases h with
  | tallies h => exact State.panesValid_congr h.panes hs
  | stages h => exact h.panes hs
  | powerOn | reset => exact reset_panesValid
  | frameOpened => exact State.panesValid_frameStart (s := s.withTracker _) hs
  | internalBegun => exact State.panesValid_frameStart (s := s.withTracker _) hs
  | _ => exact hs

/-- Settles O6: only staging, a frame start, a reset and power-on write a pane record, each one that is valid. -/
theorem paneRecordsStayValid : Obligations.PaneRecordsStayValid :=
  fun _ _ hs h => State.kept_of_actions (P := State.panesValid) State.Action.panesValid hs h

/-! ### The index store (log entry 4) -/

theorem State.Action.store_wf {s t : State} (h : State.Action s t) (hs : s.store.wf) : t.store.wf := by
  cases h with
  | tallies h => exact h.store ▸ hs
  | stages h => exact h.store_eq ▸ hs
  | powerOn => exact IndexStore.nil_wf ..
  | cleared => exact s.store.clearOne_wf hs
  | jobWorked h | jobEnded h => exact h.wf hs
  | _ => exact hs

/-- Settles O7: entries change by writes and by the clear, which keep the canonical form. -/
theorem indexStoreStaysCanonical : Obligations.IndexStoreStaysCanonical :=
  fun _ _ hs h => State.kept_of_actions (P := fun s => s.store.wf) State.Action.store_wf hs h

/-! ### The fade engine (R61, R63) -/

theorem State.Action.fade_sound {s t : State} (h : State.Action s t) (hs : s.fade.sound) : t.fade.sound := by
  cases h with
  | tallies h => exact h.fade ▸ hs
  | stages h => exact h.fade hs
  | powerOn | reset => exact reset_fade_sound
  | frameOpened | internalBegun => exact FadeEngine.step_sound hs
  | _ => exact hs

/-- Settles O10: the level moves at a frame start alone, by `FadeEngine.step`; a FADE starts a ramp at it. -/
theorem fadeLevelStaysBetweenStartAndTarget : Obligations.FadeLevelStaysBetweenStartAndTarget :=
  fun _ _ hs h => State.kept_of_actions (P := fun s => s.fade.sound) State.Action.fade_sound hs h

/-! ### The tracker (R102, R114, R117, R118) -/

theorem Tracker.sound_congr {t u : Tracker} (hstate : u.state = t.state) (hframe : u.frame = t.frame)
    (htiming : u.timing = t.timing) (hgenerator : u.generator = t.generator) (hloss : u.lossStart = t.lossStart)
    (hopen : u.prevOpen = t.prevOpen) (h : t.sound) : u.sound := by
  unfold Tracker.sound Tracker.modeFits
  rw [hstate, hframe, htiming, hgenerator, hloss, hopen]
  exact h

theorem Tracker.lineTaken_sound {t : Tracker} (h : t.sound) (hstate : t.state = .inFrame) (n : Nat) :
    Tracker.sound { t with frame := { t.frame with linesTaken := n } } := by
  obtain ⟨htiming, hsize, hmode⟩ := h
  have hlocked : t.state ≠ .freeRun := by
    rw [hstate]
    exact nofun
  refine ⟨htiming, hsize, ?_⟩
  rw [Tracker.modeFits_locked (by exact hlocked)]
  exact (Tracker.modeFits_locked hlocked).mp hmode

/-- An internal frame runs in FREE-RUN alone. -/
theorem Tracker.freeRun_of_generator {t : Tracker} (h : t.modeFits = true) {g : Generator}
    (hgenerator : t.generator = some g) : t.state = .freeRun := by
  by_contra hlocked
  obtain ⟨-, hnone, -⟩ := (Tracker.modeFits_locked hlocked).mp h
  exact nomatch hnone.symm.trans hgenerator

/-- The count of active slots that are over, after one more slot. -/
theorem slots_over_succ {slot lines : Nat} (hheight : lines ≤ 2048) :
    (if slot < lines then count16 (min slot lines) else min slot lines) = min (slot + 1) lines := by
  split
  · next hslot =>
    rw [Nat.min_eq_left hslot.le, Nat.min_eq_left hslot, count16_eq_min]
    exact Nat.min_eq_left ((Nat.le_trans hslot hheight).trans (by decide : 2048 ≤ 65535))
  · next hslot =>
    have hlines := Nat.not_lt.mp hslot
    rw [Nat.min_eq_right hlines, Nat.min_eq_right (hlines.trans (Nat.le_succ _))]

/-- The generator's next slot, and the count of the active ones that are over. -/
theorem Tracker.slotTaken_sound {t : Tracker} (h : t.sound) {g : Generator} (hgenerator : t.generator = some g)
    (hmore : g.slot + 1 < t.frame.lines.getD 0 + g.blanks) :
    Tracker.sound { t with
      frame := { t.frame with linesTaken := (if g.slot < t.frame.lines.getD 0 then
        count16 t.frame.linesTaken else t.frame.linesTaken) }
      generator := some { g with slot := g.slot + 1 } } := by
  obtain ⟨htiming, hsize, hmode⟩ := h
  have hfree := Tracker.freeRun_of_generator hmode hgenerator
  obtain ⟨hkind, g', hg', hblanks, hlow, hhigh, -, htaken⟩ := (Tracker.modeFits_freeRun hfree).mp hmode
  obtain rfl := Option.some.inj (hgenerator.symm.trans hg')
  have hheight := FrameRecord.lines_le hsize
  refine ⟨htiming, hsize, ?_⟩
  rw [Tracker.modeFits_freeRun (by exact hfree)]
  refine ⟨hkind, _, rfl, hblanks, hlow, hhigh, hmore, ?_⟩
  dsimp only
  rw [htaken]
  exact slots_over_succ hheight

theorem Tracker.frameClosed_sound {t : Tracker} (h : t.sound) (hstate : t.state = .inFrame) :
    Tracker.sound { t with timing := t.learn, state := .betweenFrames } := by
  obtain ⟨htiming, hsize, hmode⟩ := h
  have hlocked : t.state ≠ .freeRun := by
    rw [hstate]
    exact nofun
  refine ⟨Tracker.learn_inRange htiming hsize, hsize, ?_⟩
  rw [Tracker.modeFits_locked (by exact nofun)]
  exact (Tracker.modeFits_locked hlocked).mp hmode

theorem State.Action.tracker_sound {s t : State} (h : State.Action s t) (hs : s.tracker.sound) : t.tracker.sound := by
  cases h with
  | tallies h => exact Tracker.sound_congr h.state h.frame h.timing h.generator h.lossStart h.prevOpen hs
  | stages h => exact h.tracker_eq ▸ hs
  | powerOn time => exact Tracker.powerOn_sound time
  | lineTaken hstate => exact Tracker.lineTaken_sound hs hstate _
  | slotTaken hgenerator hmore => exact Tracker.slotTaken_sound hs hgenerator hmore
  | frameClosed hstate => exact Tracker.frameClosed_sound hs hstate
  | frameOpened time number width lines => exact Tracker.takeOpen_sound hs time number width lines
  | internalBegun time => exact Tracker.beginInternal_sound hs.1 time
  | _ => exact hs

/-- Settles O12: each change of the tracker's records, by the state it happens in. -/
theorem trackerRecordsStayConsistent : Obligations.TrackerRecordsStayConsistent :=
  fun _ _ hs h => State.kept_of_actions (P := fun s => s.tracker.sound) State.Action.tracker_sound hs h

/-! ### The store writer (R83, R86, R92, R94, R95) -/

theorem State.clearRunsAlone_congr {s t : State} (hprogress : t.store.progress = s.store.progress)
    (hrunning : t.writer.running = s.writer.running) (hs : s.clearRunsAlone) : t.clearRunsAlone := by
  unfold State.clearRunsAlone State.clearing
  rw [hprogress, hrunning]
  exact hs

/-- A job starts only when the clear is over. -/
theorem State.Action.clearRunsAlone {s t : State} (h : State.Action s t) (hs : s.clearRunsAlone) :
    t.clearRunsAlone := by
  cases h with
  | tallies h => exact State.clearRunsAlone_congr (by rw [h.store]) h.running hs
  | stages h => exact State.clearRunsAlone_congr (by rw [h.store_eq]) (by rw [h.writer_eq]) hs
  | powerOn | reset => exact fun _ => rfl
  | cleared hclearing hstops => exact fun _ => hstops.elim (fun h => h.trans (hs hclearing)) id
  | jobStarted h hcleared => exact fun hclearing => nomatch hcleared.symm.trans hclearing
  | jobWorked h hrunning =>
    intro hclearing
    unfold State.clearing at hclearing
    rw [State.withWriter_store, State.withStore_store, h.progress] at hclearing
    exact nomatch (hs hclearing).symm.trans hrunning
  | jobEnded h hrunning hjobs hends => exact fun _ => hends
  | jobLeft h hjobs hrunning => exact State.clearRunsAlone_congr (by rfl) hrunning hs
  | _ => exact hs

theorem StoreWriter.sound_congr {w v : StoreWriter} (hwindow : v.window = w.window) (hcursor : v.cursor = w.cursor)
    (hrunning : v.running = w.running) (h : w.sound) : v.sound := by
  unfold StoreWriter.sound StoreWriter.inStore StoreWriter.runningFits
  rw [hwindow, hcursor, hrunning]
  exact h

theorem State.Action.writer_sound {s t : State} (h : State.Action s t) (hs : s.writer.sound) : t.writer.sound := by
  cases h with
  | tallies h => exact StoreWriter.sound_congr h.window h.cursor h.running hs
  | stages h => exact h.writer_eq ▸ hs
  | powerOn | reset => exact StoreWriter.empty_sound _
  | cleared hclearing hstops =>
    rcases hstops with rfl | rfl
    · exact StoreWriter.sound_congr rfl rfl rfl hs
    · exact (StoreWriter.sound_idle_iff rfl).mpr hs.placed
  | jobStarted h | jobWorked h | jobEnded h | jobLeft h => exact h.sound hs
  | _ => exact hs

theorem State.Action.progress_le {s t : State} (h : State.Action s t) (hs : s.store.progress ≤ Config.storeEntries) :
    t.store.progress ≤ Config.storeEntries := by
  cases h with
  | tallies h => exact h.store ▸ hs
  | stages h => exact h.store_eq ▸ hs
  | powerOn => exact Nat.zero_le _
  | cleared hclearing => exact s.clearing_iff.mp hclearing
  | jobWorked h | jobEnded h => exact h.progress.trans_le hs
  | _ => exact hs

theorem State.Action.writerSound {s t : State} (h : State.Action s t) (hs : s.writerSound) : t.writerSound := by
  obtain ⟨hin, hfits, hsome, hprogress, halone⟩ := hs
  obtain ⟨hin', hfits', hsome'⟩ := h.writer_sound ⟨hin, hfits, hsome⟩
  exact ⟨hin', hfits', hsome', h.progress_le hprogress, h.clearRunsAlone halone⟩

/-- Settles O11: every change of the writer keeps it sound, and no job runs beside the clear. -/
theorem writerStaysInsideItsWindow : Obligations.WriterStaysInsideItsWindow :=
  fun _ _ hs h => State.kept_of_actions (P := State.writerSound) State.Action.writerSound hs h

/-! ### No step stops (R6, R83) -/

theorem exec_line_next {s : State} (hvalid : s.panes.activeValid = true) (pixels : List Pixel) :
    ∃ t, exec (.line pixels) s = .next t := by
  rw [exec, execLine, State.composesInvalid_of_valid hvalid, if_neg Bool.false_ne_true]
  split_ifs <;> exact ⟨_, rfl⟩

theorem exec_internalActiveLine_next {s : State} (hvalid : s.panes.activeValid = true) (time : Nat) :
    ∃ t, exec (.internalActiveLine time) s = .next t := by
  rw [exec, execInternalActiveLine]
  split
  · next g =>
    dsimp only
    rw [State.composesInvalid_of_valid hvalid, if_neg Bool.false_ne_true]
    split_ifs <;> exact ⟨_, rfl⟩
  · exact ⟨_, rfl⟩

theorem exec_internalBlankingLine_next (time : Nat) (s : State) :
    ∃ t, exec (.internalBlankingLine time) s = .next t := by
  rw [exec, execInternalBlankingLine]
  split
  · dsimp only
    split_ifs <;> exact ⟨_, rfl⟩
  · exact ⟨_, rfl⟩

theorem exec_sendBegin_next (s : State) : ∃ t, exec .sendBegin s = .next t := by
  rw [exec, execSendBegin]
  split
  · split <;> exact ⟨_, rfl⟩
  · exact ⟨_, rfl⟩

theorem exec_packetEmission_next (s : State) : ∃ t, exec .packetEmission s = .next t := by
  rw [exec, execPacketEmission]
  split
  · split_ifs <;> exact ⟨_, rfl⟩
  · exact ⟨_, rfl⟩

/-- A step stops only where it would read or write outside the index store, which valid active records and a writer
inside the store exclude. -/
theorem exec_next {s : State} (hvalid : s.panes.activeValid = true) (hin : s.writer.inStore = true) (c : Instr) :
    ∃ t, exec c s = .next t := by
  cases c with
  | powerOn | credit | sendEnd | emissionEnd => exact ⟨_, rfl⟩
  | badPacket bytes =>
    rw [exec, execBadPacket]
    split <;> exact ⟨_, rfl⟩
  | frameOpen =>
    rw [exec, execFrameOpen]
    split <;> exact ⟨_, rfl⟩
  | line pixels => exact exec_line_next hvalid pixels
  | blank =>
    rw [exec, execBlank]
    split <;> exact ⟨_, rfl⟩
  | frameClose number =>
    rw [exec, execFrameClose]
    split <;> exact ⟨_, rfl⟩
  | lossTimerExpiry time => exact ⟨_, exec_lossTimerExpiry time s⟩
  | internalActiveLine time => exact exec_internalActiveLine_next hvalid time
  | internalBlankingLine time => exact exec_internalBlankingLine_next time s
  | command =>
    rw [exec, execCommand]
    split_ifs <;> exact ⟨_, rfl⟩
  | upLanePacket =>
    rw [exec, execUpLanePacket]
    split <;> exact ⟨_, rfl⟩
  | sendBegin => exact exec_sendBegin_next s
  | creditEmission =>
    rw [exec, execCreditEmission]
    split <;> exact ⟨_, rfl⟩
  | packetEmission => exact exec_packetEmission_next s
  | paceStep => exact ⟨_, exec_paceStep hin⟩
  | paneSet | paneState | paneScroll | paletteLoad | markerSet | backgroundSet | window | write | fill | read | commit
  | discard | fade | config | queryPane | queryPalette | identify => exact ⟨_, exec_head rfl s⟩

theorem step_next {s : State} (hvalid : s.panes.activeValid = true) (hin : s.writer.inStore = true) :
    ∃ t, step s = .next t := by
  cases hpending : s.pending with
  | nil => exact ⟨_, step_of_pending_nil hpending⟩
  | cons c rest =>
    obtain ⟨t, ht⟩ := exec_next (s := { s with pending := rest }) hvalid hin c
    refine ⟨t, ?_⟩
    rw [← ht, ← step_cons, ← hpending]

/-- Settles O13: valid records and a sound writer let every step run, and every step keeps them. -/
theorem soundStatesNeverStop : Obligations.SoundStatesNeverStop := by
  intro s hpanes hwriter
  obtain ⟨t, ht⟩ := step_next (State.activeValid_of_panesValid hpanes) hwriter.1
  exact ⟨t, ht, paneRecordsStayValid s t hpanes ht, writerStaysInsideItsWindow s t hwriter ht⟩

end Sys2Proof.Machine
end

/-! PROOFS. The invariants of counts: reservations and replies owed (R153), the tags and the capacities of the pending
work (R86, R134, R137, R142, R160), and the ranges of counters and tables (R28, R54, R89, R102, R103, R122, R144, R146,
R157, R161, R162, R176). -/

section
namespace Sys2Proof.Machine

-- one theorem at a time, as in the tests: many threads' stacks at once exceed the check's memory limit
set_option Elab.async false

/-! ### Replies owed (R153) -/

/-- The part of `State.reservationsHold` that counts. -/
def State.covered (s : State) : Prop := s.up.reserved = s.owed ∧ s.up.outbox.length + s.up.reserved ≤ Config.outboxSize

theorem State.owed_congr {s t : State} (hqueue : t.commands.queue = s.commands.queue)
    (hjobs : t.writer.jobs = s.writer.jobs) (hrunning : t.writer.running = s.writer.running) : t.owed = s.owed := by
  rw [State.owed, State.owed, hqueue, hjobs, hrunning]

theorem State.owed_popQueue_addressed {s : State} {tag : Half} {r : Request} {rest : List Entry}
    (hqueue : s.commands.queue = ⟨.addressed tag, r⟩ :: rest) : s.owed = s.popQueue.owed + 1 := by
  have hpop : s.popQueue.commands.queue = rest := by
    rw [State.popQueue, State.withCommands_commands, hqueue, List.tail_cons]
  rw [State.owed, State.owed, hpop, hqueue, List.filter_cons_of_pos rfl, List.length_cons, State.popQueue_writer]
  omega

theorem State.owed_popQueue_broadcast {s : State} {e : Entry} {rest : List Entry} (hqueue : s.commands.queue = e :: rest)
    (horigin : e.origin = .broadcast) : s.popQueue.owed = s.owed := by
  have hpop : s.popQueue.commands.queue = rest := by
    rw [State.popQueue, State.withCommands_commands, hqueue, List.tail_cons]
  have hnone : ¬ e.isAddressed = true := by
    rw [Entry.isAddressed, horigin]
    exact Bool.false_ne_true
  rw [State.owed, State.owed, hpop, hqueue, List.filter_cons_of_neg hnone, State.popQueue_writer]

theorem State.owed_enqueue (s : State) (e : Entry) :
    (s.enqueue e).owed = s.owed + (if e.isAddressed = true then 1 else 0) := by
  rw [State.owed, State.owed, State.enqueue, State.withCommands_commands, State.withCommands_writer,
    List.filter_append, List.length_append, List.filter_singleton]
  cases e.isAddressed with
  | true =>
    rw [if_pos rfl, cond_true, List.length_singleton]
    omega
  | false =>
    rw [if_neg Bool.false_ne_true, cond_false, List.length_nil]
    rfl

/-- A reply in its reservation. -/
theorem State.covered_answerJobs {u : State} {reply : Reply} (howed : u.up.reserved = u.owed + 1)
    (hroom : u.up.outbox.length + u.up.reserved ≤ Config.outboxSize) : (u.answerJobs [reply]).covered := by
  have hreserved : (u.answerJobs [reply]).up.reserved = u.owed := by
    rw [State.answerJobs, howed]
    exact Nat.add_sub_cancel ..
  have hlength : (u.answerJobs [reply]).up.outbox.length = u.up.outbox.length + 1 := List.length_append
  refine ⟨hreserved, ?_⟩
  rw [hreserved, hlength]
  omega

theorem State.Action.covered {s t : State} (h : State.Action s t) (halone : s.clearRunsAlone) (hs : s.covered) :
    t.covered := by
  obtain ⟨howed, hroom⟩ := hs
  cases h with
  | tallies h =>
    refine ⟨?_, h.up.room hroom⟩
    rw [h.up.reserved, State.owed_congr h.queue h.jobs h.running, howed]
  | stages h =>
    have hsame : t.owed = s.owed := State.owed_congr h.queue_eq (by rw [h.writer_eq]) (by rw [h.writer_eq])
    refine ⟨?_, ?_⟩
    · rw [h.up_eq, hsame, howed]
    · rw [h.up_eq]
      exact hroom
  | powerOn | reset => exact ⟨rfl, Nat.zero_le _⟩
  | accepted r hfull hfree =>
    refine ⟨?_, Nat.succ_le_of_lt hfree⟩
    rw [State.owed_enqueue]
    exact congrArg (· + 1) howed
  | broadcastQueued =>
    refine ⟨?_, hroom⟩
    rw [State.owed_enqueue]
    exact howed
  | broadcastDone hqueue horigin => exact ⟨howed.trans (State.owed_popQueue_broadcast hqueue horigin).symm, hroom⟩
  | answered hqueue => exact State.covered_answerJobs (howed.trans (State.owed_popQueue_addressed hqueue)) hroom
  | handedOver k hqueue =>
    refine ⟨howed.trans ?_, hroom⟩
    rw [State.owed_popQueue_addressed hqueue, State.owed, State.owed, State.withWriter_commands,
      State.withWriter_writer, List.length_append, List.length_singleton, State.popQueue_writer]
    dsimp only
    omega
  | cleared hclearing hstops =>
    have hidle := halone hclearing
    exact ⟨howed.trans (State.owed_congr (by rfl) (by rfl) (hstops.elim id fun h => h.trans hidle.symm)).symm, hroom⟩
  | jobStarted h hcleared hidle hjobs hruns =>
    refine ⟨howed.trans ?_, hroom⟩
    rw [State.owed, State.owed, State.withWriter_commands, State.withWriter_writer, hjobs, hruns, hidle,
      List.length_cons]
    rfl
  | jobWorked h hrunning hjobs hruns =>
    refine ⟨howed.trans ?_, hroom⟩
    rw [State.owed, State.owed, State.withWriter_commands, State.withWriter_writer, State.withStore_commands, hjobs,
      hruns, hrunning]
    rfl
  | jobEnded h hrunning hjobs hends =>
    refine State.covered_answerJobs (howed.trans ?_) hroom
    rw [State.owed, State.owed, State.withWriter_commands, State.withWriter_writer, State.withStore_commands, hjobs,
      hends, hrunning]
    rfl
  | jobLeft h hjobs hrunning =>
    refine State.covered_answerJobs (howed.trans ?_) hroom
    rw [State.owed, State.owed, State.withWriter_commands, State.withWriter_writer, hjobs, hrunning, List.length_cons]
    omega
  | _ => exact ⟨howed, hroom⟩

theorem State.Action.reservationsHold {s t : State} (h : State.Action s t) (hs : s.reservationsHold) :
    t.reservationsHold := by
  obtain ⟨howed, hroom, halone⟩ := hs
  obtain ⟨howed', hroom'⟩ := h.covered halone ⟨howed, hroom⟩
  exact ⟨howed', hroom', h.clearRunsAlone halone⟩

/-- Settles O5: work that is accepted takes a reservation, and each reply takes its own. -/
theorem reservationsStayCovered : Obligations.ReservationsStayCovered :=
  fun _ _ hs h => State.kept_of_actions (P := State.reservationsHold) State.Action.reservationsHold hs h

/-! ### Tags of pending work (R134) -/

/-- The tags of the pending work, zero or not. -/
def State.allTags (s : State) : List Half :=
  s.commands.queue.filterMap Entry.tag? ++ s.writer.jobs.map (·.tag) ++ s.writer.running.toList.map (·.tag)

/-- The nonzero ones are distinct. -/
def State.tagsNodup (s : State) : Prop := (s.allTags.filter (fun t => decide (t ≠ 0))).Nodup

theorem State.tagsNodup_of_subperm {s t : State} (h : t.allTags.Subperm s.allTags) (hs : s.tagsNodup) :
    t.tagsNodup := by
  obtain ⟨l, hperm, hsub⟩ := h.filter (fun t => decide (t ≠ 0))
  exact hperm.nodup_iff.mp (hs.sublist hsub)

theorem State.allTags_congr {s t : State} (hqueue : t.commands.queue = s.commands.queue)
    (hjobs : t.writer.jobs = s.writer.jobs) (hrunning : t.writer.running = s.writer.running) :
    t.allTags = s.allTags := by
  rw [State.allTags, State.allTags, hqueue, hjobs, hrunning]

theorem State.mem_allTags_iff (s : State) (tag : Half) : tag ∈ s.allTags ↔ s.hasPending tag := by
  have hentry : ∀ e : Entry, e.tag? = some tag ↔ e.origin = .addressed tag := fun ⟨o, r⟩ => by
    cases o <;> simp [Entry.tag?]
  simp only [State.allTags, State.hasPending, List.mem_append, List.mem_filterMap, List.mem_map, hentry,
    Option.mem_toList, or_assoc]

theorem State.tagsNodup_accepted {s : State} (hs : s.tagsNodup) {tag : Half} (hnew : tag = 0 ∨ ¬ s.hasPending tag)
    (u : UpLane) (r : Request) : ((s.withUp u).enqueue ⟨.addressed tag, r⟩).tagsNodup := by
  have hperm : ((s.withUp u).enqueue ⟨.addressed tag, r⟩).allTags.Perm (tag :: s.allTags) := by
    rw [State.allTags, State.enqueue, State.withCommands_commands, State.withUp_commands, State.withCommands_writer,
      State.withUp_writer, List.filterMap_append, List.append_assoc, List.append_assoc, State.allTags,
      List.append_assoc]
    exact List.perm_middle
  refine ((hperm.filter _).nodup_iff).mpr ?_
  by_cases hzero : tag = 0
  · rw [List.filter_cons_of_neg (by rw [hzero]; decide)]
    exact hs
  · rw [List.filter_cons_of_pos (by exact decide_eq_true hzero), List.nodup_cons]
    refine ⟨fun hmem => ?_, hs⟩
    exact hnew.resolve_left hzero ((s.mem_allTags_iff tag).mp (List.mem_of_mem_filter hmem))

theorem State.allTags_enqueue_broadcast (s : State) (r : Request) :
    (s.enqueue ⟨.broadcast, r⟩).allTags = s.allTags := by
  rw [State.allTags, State.enqueue, State.withCommands_commands, State.withCommands_writer, List.filterMap_append]
  have hnone : [(⟨.broadcast, r⟩ : Entry)].filterMap Entry.tag? = [] := rfl
  rw [hnone, List.append_nil, State.allTags]

theorem State.allTags_popQueue (s : State) : s.popQueue.allTags.Sublist s.allTags :=
  (((List.tail_sublist _).filterMap _).append_right _).append_right _

theorem State.allTags_handedOver {s : State} {tag : Half} {r : Request} {rest : List Entry}
    (hqueue : s.commands.queue = ⟨.addressed tag, r⟩ :: rest) (k : Work) :
    (s.popQueue.withWriter { s.writer with jobs := s.writer.jobs ++ [⟨tag, k⟩] }).allTags.Perm s.allTags := by
  have hpop : s.popQueue.commands.queue = rest := by
    rw [State.popQueue, State.withCommands_commands, hqueue, List.tail_cons]
  rw [State.allTags, State.allTags, State.withWriter_commands, State.withWriter_writer, hpop, hqueue,
    List.map_append, ← List.append_assoc]
  refine List.Perm.append_right _ ?_
  exact List.perm_append_comm (l₁ := rest.filterMap Entry.tag? ++ s.writer.jobs.map (·.tag)) (l₂ := [tag])

theorem State.allTags_jobStarted {s : State} {j : Job} {w : StoreWriter} {p : Progress}
    (hidle : s.writer.running = none) (hjobs : s.writer.jobs = j :: w.jobs) (hruns : w.running = some ⟨j.tag, p⟩) :
    (s.withWriter w).allTags.Perm s.allTags := by
  rw [State.allTags, State.allTags, State.withWriter_commands, State.withWriter_writer, hjobs, hruns, hidle,
    List.append_assoc, List.append_assoc, List.map_cons]
  refine List.Perm.append_left _ ?_
  rw [Option.toList_none, List.map_nil, List.append_nil]
  exact List.perm_append_comm (l₁ := w.jobs.map (·.tag)) (l₂ := [j.tag])

theorem State.Action.tagsNodup {s t : State} (h : State.Action s t) (hs : s.tagsNodup) : t.tagsNodup := by
  cases h with
  | tallies h => exact State.tagsNodup_of_subperm (State.allTags_congr h.queue h.jobs h.running ▸ .refl _) hs
  | stages h =>
    have hsame : t.allTags = s.allTags :=
      State.allTags_congr h.queue_eq (by rw [h.writer_eq]) (by rw [h.writer_eq])
    exact State.tagsNodup_of_subperm (hsame ▸ .refl _) hs
  | powerOn | reset => exact List.nodup_nil
  | accepted r hroom hfree hnew => exact State.tagsNodup_accepted hs hnew _ r
  | broadcastQueued r => exact State.tagsNodup_of_subperm (State.allTags_enqueue_broadcast s r ▸ .refl _) hs
  | broadcastDone hqueue | answered hqueue =>
    exact State.tagsNodup_of_subperm (State.allTags_popQueue s).subperm hs
  | handedOver k hqueue => exact State.tagsNodup_of_subperm (State.allTags_handedOver hqueue k).subperm hs
  | cleared hclearing hstops =>
    rcases hstops with rfl | rfl
    · exact hs
    · exact State.tagsNodup_of_subperm (s := s) ((List.nil_sublist _).append_left _).subperm hs
  | jobStarted h hcleared hidle hjobs hruns =>
    exact State.tagsNodup_of_subperm (State.allTags_jobStarted hidle hjobs hruns).subperm hs
  | jobWorked h hrunning hjobs hruns =>
    refine State.tagsNodup_of_subperm (List.Sublist.subperm ?_) hs
    rw [State.allTags, State.allTags, State.withWriter_commands, State.withWriter_writer, State.withStore_commands,
      hjobs, hruns, hrunning]
    exact .refl _
  | jobEnded h hrunning hjobs hends =>
    refine State.tagsNodup_of_subperm (s := s) (List.Sublist.subperm ?_) hs
    change ((State.withWriter _ _).allTags).Sublist _
    rw [State.allTags, State.allTags, State.withWriter_commands, State.withWriter_writer, State.withStore_commands,
      hjobs, hends]
    exact (List.nil_sublist _).append_left _
  | jobLeft h hjobs hrunning =>
    refine State.tagsNodup_of_subperm (s := s) (List.Sublist.subperm ?_) hs
    change ((State.withWriter _ _).allTags).Sublist _
    rw [State.allTags, State.allTags, State.withWriter_commands, State.withWriter_writer, hjobs, hrunning, List.map_cons]
    exact ((List.sublist_cons_self ..).append_left _).append_right _
  | _ => exact hs

/-! ### Capacities (R86, R137, R142, R160) -/

theorem cacheAfter_bounded {cache : List CacheEntry} (reply : Reply)
    (h : cache.length ≤ Config.cacheSize ∧ cacheTagsDistinct cache) :
    (cacheAfter cache reply).length ≤ Config.cacheSize ∧ cacheTagsDistinct (cacheAfter cache reply) := by
  unfold cacheAfter
  split
  · exact h
  · next htag => exact ⟨cacheInsert_length _ _ h.1, cacheInsert_distinct _ _ h.2 htag⟩

theorem State.capacitiesHold_congr {s t : State} (hqueue : t.commands.queue = s.commands.queue)
    (hjobs : t.writer.jobs = s.writer.jobs) (hrelay : s.up.relay.length ≤ 8 → t.up.relay.length ≤ 8)
    (hcache : t.commands.cache = s.commands.cache) (hs : s.capacitiesHold) : t.capacitiesHold := by
  obtain ⟨hq, hj, hr, hc⟩ := hs
  unfold State.capacitiesHold
  rw [hqueue, hjobs, hcache]
  exact ⟨hq, hj, hrelay hr, hc⟩

theorem State.capacitiesHold_answerJobs {u : State} (reply : Reply) (h : u.capacitiesHold) :
    (u.answerJobs [reply]).capacitiesHold := by
  obtain ⟨hqueue, hjobs, hrelay, hcache⟩ := h
  exact ⟨hqueue, hjobs, hrelay, cacheAfter_bounded reply hcache⟩

theorem State.capacitiesHold_popQueue {s : State} (h : s.capacitiesHold) : s.popQueue.capacitiesHold := by
  obtain ⟨hqueue, hrest⟩ := h
  exact ⟨(List.tail_sublist _).length_le.trans hqueue, hrest⟩

theorem State.capacitiesHold_enqueue {s : State} (h : s.capacitiesHold) (hroom : s.commands.queue.length < 16)
    (e : Entry) : (s.enqueue e).capacitiesHold := by
  obtain ⟨-, hrest⟩ := h
  refine ⟨?_, hrest⟩
  rw [State.enqueue, State.withCommands_commands, List.length_append]
  exact hroom

/-- The oldest waiting job leaves the job queue. -/
theorem State.capacitiesHold_jobTaken {s : State} {j : Job} {w : StoreWriter} (hjobs : s.writer.jobs = j :: w.jobs)
    (h : s.capacitiesHold) : (s.withWriter w).capacitiesHold := by
  obtain ⟨hqueue, hwaiting, hrest⟩ := h
  refine ⟨hqueue, ?_, hrest⟩
  rw [hjobs] at hwaiting
  exact (Nat.le_succ _).trans hwaiting

theorem State.Action.capacitiesHold {s t : State} (h : State.Action s t) (hs : s.capacitiesHold) :
    t.capacitiesHold := by
  cases h with
  | tallies h => exact State.capacitiesHold_congr h.queue h.jobs h.up.relay h.cache hs
  | stages h =>
    exact State.capacitiesHold_congr h.queue_eq (by rw [h.writer_eq]) (by rw [h.up_eq]; exact id) h.cache_eq hs
  | powerOn => exact reset_capacitiesHold
  | reset =>
    obtain ⟨-, -, hrelay, -⟩ := hs
    exact ⟨Nat.zero_le _, Nat.zero_le _, hrelay, Nat.zero_le _, List.nodup_nil, List.not_mem_nil⟩
  | accepted r hroom => exact State.capacitiesHold_enqueue (s := s.withUp _) hs hroom _
  | broadcastQueued r hroom => exact State.capacitiesHold_enqueue hs hroom _
  | broadcastDone => exact State.capacitiesHold_popQueue hs
  | answered => exact State.capacitiesHold_answerJobs _ (State.capacitiesHold_popQueue hs)
  | handedOver k hqueue hroom =>
    obtain ⟨hqueue, -, hrest⟩ := State.capacitiesHold_popQueue hs
    refine ⟨hqueue, ?_, hrest⟩
    rw [State.withWriter_writer, List.length_append]
    exact hroom
  | jobStarted h hcleared hidle hjobs => exact State.capacitiesHold_jobTaken hjobs hs
  | jobWorked h hrunning hjobs => exact State.capacitiesHold_congr (by rfl) hjobs id (by rfl) hs
  | jobEnded h hrunning hjobs =>
    exact State.capacitiesHold_answerJobs _ (State.capacitiesHold_congr (s := s) (by rfl) hjobs id (by rfl) hs)
  | jobLeft h hjobs => exact State.capacitiesHold_answerJobs _ (State.capacitiesHold_jobTaken hjobs hs)
  | _ => exact hs

/-- What `PendingWorkStaysBounded` keeps. -/
def State.workBounded (s : State) : Prop := s.tagsDistinct ∧ s.capacitiesHold

theorem State.Action.workBounded {s t : State} (h : State.Action s t) (hs : s.workBounded) : t.workBounded := by
  obtain ⟨⟨htags, halone⟩, hcapacities⟩ := hs
  exact ⟨⟨h.tagsNodup htags, h.clearRunsAlone halone⟩, h.capacitiesHold hcapacities⟩

/-- Settles O8: a tag enters only when no work has it, and each queue grows only where it has room. -/
theorem pendingWorkStaysBounded : Obligations.PendingWorkStaysBounded :=
  fun _ _ hs h => State.kept_of_actions (P := State.workBounded) State.Action.workBounded hs h

/-! ### Counters and credits (R28, R89, R102, R103, R146, R157, R161, R162) -/

/-- The tracker's counters and those of its records are in range. -/
def Tracker.countsHold (t : Tracker) : Prop :=
  t.strays ≤ 65535 ∧ t.framesCut ≤ 65535 ∧ t.blankCount ≤ 65535 ∧ t.frame.linesTaken ≤ 65535
    ∧ t.frame.blanksBefore ≤ 65535 ∧ t.faults.inRange

/-- The counters and credits of the up-lane transmitter are in range. -/
def UpLane.countsHold (u : UpLane) : Prop :=
  u.upDrops ≤ 65535 ∧ u.relayOverflow ≤ 65535 ∧ u.lost ≤ 255 ∧ u.sendCredits ≤ 255 ∧ u.creditsOwed ≤ 255

/-- `State.countersHold` block by block. -/
theorem State.countersHold_iff (s : State) : s.countersHold ↔ s.badPackets ≤ 65535 ∧ s.tracker.countsHold
    ∧ s.commands.drops ≤ 65535 ∧ s.compositor.overrun.inRange ∧ s.up.countsHold ∧ s.writer.allowance ≤ 4096 := by
  unfold State.countersHold Tracker.countsHold FrameFaults.inRange Overrun.inRange UpLane.countsHold
  tauto

/-- At a frame start the counts of the frame are fresh. -/
theorem Tracker.startCounts_hold {t : Tracker} (hstrays : t.strays ≤ 65535) (hcut : t.framesCut ≤ 65535)
    (htaken : t.frame.linesTaken = 0) (hblanks : t.frame.blanksBefore ≤ 65535) :
    Tracker.countsHold { t with faults := FrameFaults.zero, blankCount := 0 } :=
  ⟨hstrays, hcut, Nat.zero_le _, htaken.trans_le (Nat.zero_le _), hblanks, Nat.zero_le _, Nat.zero_le _, Nat.zero_le _,
    Nat.zero_le _⟩

/-- The blanking lines before a frame are those counted since the last one. -/
theorem Tracker.openRecord_blanks_le {t : Tracker} (h : t.countsHold) (time : Nat) (number width lines : Half) :
    (t.openRecord time number width lines).blanksBefore ≤ 65535 := by
  obtain ⟨-, -, hblanks, -⟩ := h
  unfold Tracker.openRecord
  dsimp only
  split
  · exact hblanks
  · exact Nat.zero_le _

theorem State.Action.tracker_counts {s t : State} (h : State.Action s t) (hsound : s.tracker.sound)
    (hs : s.tracker.countsHold) : t.tracker.countsHold := by
  cases h with
  | tallies h =>
    obtain ⟨hstrays, hcut, hcount, htaken, hblanks, hfaults⟩ := hs
    exact ⟨h.strays hstrays, h.framesCut hcut, h.blankCount hcount, h.frame ▸ htaken, h.frame ▸ hblanks,
      h.faults hsound.2.1 hfaults⟩
  | stages h => exact h.tracker_eq ▸ hs
  | powerOn =>
    obtain ⟨-, htracker, -⟩ := (State.countersHold_iff _).mp reset_countersHold
    exact htracker
  | lineTaken =>
    obtain ⟨hstrays, hcut, hcount, -, hrest⟩ := hs
    exact ⟨hstrays, hcut, hcount, count16_le _, hrest⟩
  | slotTaken =>
    obtain ⟨hstrays, hcut, hcount, htaken, hrest⟩ := hs
    refine ⟨hstrays, hcut, hcount, ?_, hrest⟩
    rw [State.withTracker_tracker]
    dsimp only
    split
    · exact count16_le _
    · exact htaken
  | frameOpened time number width lines =>
    have hblanks := Tracker.openRecord_blanks_le hs time number width lines
    obtain ⟨hstrays, hcut, -⟩ := hs
    exact Tracker.startCounts_hold (t := s.tracker.takeOpen time number width lines) hstrays hcut rfl hblanks
  | internalBegun time =>
    obtain ⟨hstrays, hcut, -⟩ := hs
    exact Tracker.startCounts_hold (t := s.tracker.beginInternal time) hstrays hcut rfl (Nat.zero_le _)
  | _ => exact hs

theorem UpLane.CountsKept.countsHold {u v : UpLane} (h : u.CountsKept v) (hu : u.countsHold) : v.countsHold := by
  obtain ⟨hdrops, hoverflow, hlost, hsend, howed⟩ := hu
  exact ⟨h.upDrops hdrops, h.relayOverflow hoverflow, h.lost hlost, h.sendCredits hsend, h.creditsOwed howed⟩

theorem State.Action.up_counts {s t : State} (h : State.Action s t) (hs : s.up.countsHold) : t.up.countsHold := by
  cases h with
  | tallies h => exact h.up.toCountsKept.countsHold hs
  | stages h => exact h.up_eq ▸ hs
  | powerOn => exact ⟨Nat.zero_le _, Nat.zero_le _, Nat.zero_le _, Nat.zero_le _, (by decide : 8 ≤ 255)⟩
  | reset =>
    obtain ⟨hdrops, hoverflow, -, hrest⟩ := hs
    exact ⟨hdrops, hoverflow, Nat.zero_le _, hrest⟩
  | _ => exact hs

theorem State.Action.badPackets_le {s t : State} (h : State.Action s t) (hs : s.badPackets ≤ 65535) :
    t.badPackets ≤ 65535 := by
  cases h with
  | tallies h => exact h.badPackets hs
  | stages h => exact h.badPackets_eq ▸ hs
  | powerOn => exact Nat.zero_le _
  | _ => exact hs

theorem State.Action.drops_le {s t : State} (h : State.Action s t) (hs : s.commands.drops ≤ 65535) :
    t.commands.drops ≤ 65535 := by
  cases h with
  | tallies h => exact h.drops hs
  | stages h => exact h.drops_eq ▸ hs
  | powerOn | reset => exact Nat.zero_le _
  | _ => exact hs

theorem Overrun.empty_inRange : Overrun.empty.inRange := ⟨Nat.zero_le _, Nat.zero_le _⟩

theorem State.Action.overrun_inRange {s t : State} (h : State.Action s t) (hsound : s.tracker.sound)
    (hs : s.compositor.overrun.inRange) : t.compositor.overrun.inRange := by
  cases h with
  | tallies h => exact h.overrun hsound.2.1 hs
  | stages h => exact h.compositor_eq ▸ hs
  | powerOn | frameOpened | internalBegun => exact Overrun.empty_inRange
  | _ => exact hs

theorem State.Action.allowance_le {s t : State} (h : State.Action s t) (hs : s.writer.allowance ≤ 4096) :
    t.writer.allowance ≤ 4096 := by
  cases h with
  | tallies h => exact h.allowance hs
  | stages h => exact h.writer_eq ▸ hs
  | powerOn => exact Nat.zero_le _
  | cleared => exact (Nat.sub_le ..).trans hs
  | jobStarted h | jobWorked h | jobEnded h | jobLeft h => exact h.allowance.trans hs
  | _ => exact hs

theorem State.Action.countersHold {s t : State} (h : State.Action s t) (hsound : s.tracker.sound)
    (hs : s.countersHold) : t.countersHold := by
  obtain ⟨hbad, htracker, hdrops, hoverrun, hup, hallowance⟩ := s.countersHold_iff.mp hs
  exact t.countersHold_iff.mpr ⟨h.badPackets_le hbad, h.tracker_counts hsound htracker, h.drops_le hdrops,
    h.overrun_inRange hsound hoverrun, h.up_counts hup, h.allowance_le hallowance⟩

/-! ### Tables and settings (R54, R122, R144, R176) -/

theorem State.Action.tablesInRange {s t : State} (h : State.Action s t) (hs : s.tablesInRange) : t.tablesInRange := by
  cases h with
  | tallies h =>
    unfold State.tablesInRange
    rw [h.palette, h.shadowMarkers, h.activeMarkers]
    exact hs
  | stages h => exact h.tables hs
  | powerOn => exact reset_tablesInRange
  | frameOpened => exact State.tablesInRange_frameStart (s := s.withTracker _) hs
  | internalBegun => exact State.tablesInRange_frameStart (s := s.withTracker _) hs
  | reset =>
    obtain ⟨hshadow, hactive, -, -⟩ := hs
    exact ⟨hshadow, hactive, fun i => (MarkerUnit.default_line i).1, fun i => (MarkerUnit.default_line i).2⟩
  | _ => exact hs

theorem State.Action.settingsInRange {s t : State} (h : State.Action s t) (hs : s.settingsInRange) :
    t.settingsInRange := by
  obtain ⟨haddress, hinterval⟩ := hs
  cases h with
  | tallies h => exact ⟨h.address ▸ haddress, h.config ▸ hinterval⟩
  | stages h => exact ⟨h.address_eq ▸ haddress, h.interval hinterval⟩
  | powerOn => exact reset_settingsInRange
  | reset => exact ⟨haddress, reset_settingsInRange.2⟩
  | addressed ha => exact ⟨ha, hinterval⟩
  | _ => exact ⟨haddress, hinterval⟩

/-- What `CountersAndTablesStayInRange` keeps, with the tracker's soundness that it rests on. -/
def State.ranges (s : State) : Prop :=
  s.tracker.sound ∧ s.countersHold ∧ s.tablesInRange ∧ s.settingsInRange

theorem State.Action.ranges {s t : State} (h : State.Action s t) (hs : s.ranges) : t.ranges := by
  obtain ⟨hsound, hcounters, htables, hsettings⟩ := hs
  exact ⟨h.tracker_sound hsound, h.countersHold hsound hcounters, h.tablesInRange htables, h.settingsInRange hsettings⟩

/-- Settles O9: each counter by the block it stands in; the frame-fault and overrun records rest on the frame's size. -/
theorem countersAndTablesStayInRange : Obligations.CountersAndTablesStayInRange :=
  fun _ _ hsound hs h => (State.kept_of_actions (P := State.ranges) State.Action.ranges ⟨hsound, hs⟩ h).2

end Sys2Proof.Machine
end
